-- ==== Sys2Proof/Word.lean ====
section
/-! DEFINITION. The two data widths of the machine (spec 00_scope.md R5, R7): the byte and the 16-bit word. -/

namespace Sys2Proof

/-- An 8-bit value: a register, a memory cell, an immediate byte (R7). -/
abbrev Byte := BitVec 8

/-- A 16-bit value: an address, `SP`, `PC`, a register pair (R7). -/
abbrev Word := BitVec 16

end Sys2Proof
end

