-- ==== Sys2Proof/Config.lean ====
section
/-! DEFINITION. What an implementation fixes, and the open parameters of the spec (00_scope.md R6, 92 D9, D10, D30) as
free values: constants with no body, so nothing can be proved from a particular value of one. -/

namespace Sys2Proof

/-- The RAM arrays of the machine (R51, R52); names the array a power-on byte belongs to. -/
inductive RamArray where
  | vram | wram | oam | hram | xram
deriving DecidableEq, Repr

namespace Machine

/-- ROM sizes a header can declare (R112). -/
inductive RomSize where
  | kib32 | kib64 | kib128 | kib256 | kib512 | kib1024 | kib2048
deriving DecidableEq, Repr, Inhabited

/-- External RAM sizes a header can declare (R113). -/
inductive RamSize where
  | none | kib2 | kib8 | kib32 | kib128 | kib64
deriving DecidableEq, Repr, Inhabited

/-- The controller codes that a load accepts (R111). -/
inductive MbcCode where
  | romOnly | mbc1 | mbc1Ram | mbc1RamBattery | mbc3 | mbc3Ram | mbc3RamBattery
deriving DecidableEq, Repr, Inhabited

/-- What the three header bytes 0x0147 to 0x0149 say: `MBC_KIND`, `ROM_BANKS` and `RAM_SIZE` (R6). -/
structure CartHeader where
  code : MbcCode
  romSize : RomSize
  ramSize : RamSize
deriving DecidableEq, Repr, Inhabited

end Machine

/-- One pixel as the host sees it: an RGBA quadruplet (R57). -/
structure Rgba where
  r : Byte
  g : Byte
  b : Byte
  a : Byte
deriving DecidableEq, Repr, Inhabited

/-- `RAM_INIT` (R6, D10; log 1): the byte that index `i` of RAM array `r` holds until something is stored there.
OPEN in the spec, "taken afresh at every reset": `epoch` counts the resets. -/
opaque Config.ramInit (epoch : Nat) (r : RamArray) (i : Nat) : Byte

/-- The cartridge image `ROM` (R6, R52; log 2): the byte at index `i` of the image, for every index the loaded cartridge
does not list. The image is a per-run parameter in the spec. -/
opaque Config.romByte (i : Nat) : Byte

/-- `MBC_KIND`, `ROM_BANKS` and `RAM_SIZE` (R6; log 6) of the cartridge of `State.reset`: per-run parameters. -/
opaque Config.header : Machine.CartHeader

/-- `IO_RESET[off]` (R6, D9; log 3): the reset value of an I/O byte for which the spec gives none. -/
opaque Config.ioReset (off : Nat) : Byte

/-- `DMG_PALETTE[0..3]` (R6, D30; log 4): the four colours, index 0 the lightest. -/
opaque Config.dmgPalette (shade : BitVec 2) : Rgba

/-- The shade pixel `(x, y)` of the framebuffer shows until its line is rendered (R57, D10; log 5). -/
opaque Config.fbInit (epoch : Nat) (y x : Nat) : BitVec 2

/-- The colour index pixel `(x, y)` of the index buffer holds until its line is rendered (R58, D10; log 5). -/
opaque Config.bgiInit (epoch : Nat) (y x : Nat) : BitVec 2

/-- Cycles of one host frame (R6, R370). -/
def Config.frameCycles : Nat := 70224

end Sys2Proof
end

