-- ==== Sys2Proof/Machine/State.lean ====
section
/-! DEFINITION. The state of the machine as plain data: everything 10_state.md gives it (R20 to R62), the cartridge
image and its header invariants (R52, R110 to R113), the reasons a step can stop, and the state after reset (R30, R63). -/

namespace Sys2Proof.Machine

/-- Sparse data by index: pairs in strictly rising order of index. An index that is not listed holds nothing of its own;
what reading it gives is said where the array is read. -/
abbrev Store (α : Type) := List (Nat × α)

/-- A byte array, as the `Host.Cell`s of the indices something was stored at. -/
abbrev Memory := Store Byte

/-- The condition R29 records: the undefined opcode and the address it was fetched from. -/
structure IllegalOpcode where
  opcode : Byte
  pc : Word
deriving DecidableEq, Repr

/-- CPU registers and hidden control flags (R20 to R29). -/
structure Cpu where
  a : Byte
  f : Byte
  b : Byte
  c : Byte
  d : Byte
  e : Byte
  h : Byte
  l : Byte
  sp : Word
  pc : Word
  halted : Bool
  stopped : Bool
  ime : Bool
  imePending : Bool
  fault : Option IllegalOpcode
deriving DecidableEq, Repr

/-- The I/O register file (R32 to R48): the listed registers under their names, and the bytes without a function (R50)
in `plain`, by offset. `ifr` is IF. -/
structure IoFile where
  p1 : Byte
  sb : Byte
  sc : Byte
  div : Byte
  tima : Byte
  tma : Byte
  tac : Byte
  ifr : Byte
  lcdc : Byte
  stat : Byte
  scy : Byte
  scx : Byte
  ly : Byte
  lyc : Byte
  dma : Byte
  bgp : Byte
  obp0 : Byte
  obp1 : Byte
  wy : Byte
  wx : Byte
  plain : Memory
deriving DecidableEq, Repr

/-- Registers of the MBC1 (R53). -/
structure Mbc1 where
  ramEnable : Bool
  romLow : BitVec 5
  high : BitVec 2
  mode : Bool
deriving DecidableEq, Repr

/-- Registers of the MBC3 (R54). -/
structure Mbc3 where
  ramEnable : Bool
  romBank : BitVec 7
  ramSel : BitVec 4
deriving DecidableEq, Repr

/-- The bank controller, a closed set of kinds that share no state (R111, R115); each kind carries its registers. -/
inductive Mbc where
  | noMbc
  | mbc1 (r : Mbc1)
  | mbc3 (r : Mbc3)
deriving DecidableEq, Repr

/-- The cartridge (R52): header invariants, ROM image, controller registers, external RAM. No step changes the title,
the sizes, the kind or the ROM image. -/
structure Cart where
  title : List Byte
  romSize : RomSize
  ramSize : RamSize
  rom : Memory
  mbc : Mbc
  xram : Memory
deriving DecidableEq, Repr

/-- PPU modes (R56), in the order of their numbers 0 to 3. -/
inductive PpuMode where
  | hBlank | vBlank | oamScan | drawing
deriving DecidableEq, Repr

/-- PPU state (R56 to R59). `fb` and `bgi` hold a row of 160 entries for each line rendered since reset: `fb` the shade
0..3 that `DMG_PALETTE` turns into a colour (D30; log 4), `bgi` the colour index before the palette. -/
structure Ppu where
  mode : PpuMode
  line : Nat
  acc : Nat
  winLine : Byte
  lycLatch : Bool
  frameReady : Bool
  fb : Store (List (BitVec 2))
  bgi : Store (List (BitVec 2))
deriving DecidableEq, Repr

/-- The two timer accumulators (R60). -/
structure Timer where
  divAcc : Nat
  timaAcc : Nat
deriving DecidableEq, Repr

/-- The eight buttons (R61); true is pressed. -/
structure Buttons where
  right : Bool
  left : Bool
  up : Bool
  down : Bool
  a : Bool
  b : Bool
  select : Bool
  start : Bool
deriving DecidableEq, Repr

/-- Joypad state (R61): the buttons, and their snapshot at the last update, which no rule reads (C5). -/
structure Joypad where
  btn : Buttons
  btnPrev : Buttons
deriving DecidableEq, Repr

/-- The machine. -/
structure State where
  /-- CPU registers and flags. -/
  cpu : Cpu
  /-- Video RAM, by index 0..0x1FFF (R51). -/
  vram : Memory
  /-- Work RAM, by index 0..0x1FFF (R51). -/
  wram : Memory
  /-- Object attribute memory, by index 0..0x9F (R51). -/
  oam : Memory
  /-- High RAM, by index 0..0x7E (R51). -/
  hram : Memory
  /-- The I/O register file. -/
  io : IoFile
  /-- Interrupt enable, the byte at 0xFFFF (R49). -/
  ie : Byte
  /-- The cartridge. -/
  cart : Cart
  /-- The picture unit. -/
  ppu : Ppu
  /-- The timer. -/
  timer : Timer
  /-- The joypad. -/
  joypad : Joypad
  /-- Cycles retired in the current host frame (R62). -/
  frameTotal : Nat
  /-- The MODEL's own field (log 7): the cycle count the last CPU step returned (R13). -/
  cycles : Nat
  /-- The MODEL's own field (log 8): how many resets there were, the argument of the open `RAM_INIT` (R450). -/
  epoch : Nat
deriving DecidableEq, Repr

/-- Why the machine stops with a fault. -/
inductive Fault where
  /-- `IllegalOpcode(opcode, pc)` (R340), raised by the meaning of each of the eleven undefined opcodes (R295). Safe: the
  spec ends the step with this fault and refuses every later step; `State.afterFault` is the state it leaves. -/
  | illegalOpcode (opcode : Byte) (pc : Word)
deriving DecidableEq, Repr

/-- Why a step has no next state. -/
inductive Refusal where
  /-- An instruction without a meaning; raised by no arm of `exec`. Safe: the machine stops. -/
  | notModelled (mnemonic : String)
  /-- A CPU step with `stopped` set (R292, R321), raised by `cpuStep`. Safe: the spec gives such a core no next step. -/
  | stopped
  /-- A CPU step with `cpu_fault` set (R321, R340), raised by `cpuStep`. Safe: the spec refuses it until reset. -/
  | cpuFaulted
deriving DecidableEq, Repr

/-- The outcome of an instruction or a step. -/
abbrev Result := Host.Outcome State Fault Refusal

/-- CPU reset values (R30). -/
def Cpu.reset : Cpu where
  a := 0x01
  f := 0xB0
  b := 0x00
  c := 0x13
  d := 0x00
  e := 0xD8
  h := 0x01
  l := 0x4D
  sp := 0xFFFE
  pc := 0x0100
  halted := false
  stopped := false
  ime := false
  imePending := false
  fault := none

/-- I/O reset values (R63); a byte the source does not list is the open `IO_RESET` (log 3). -/
def IoFile.reset : IoFile where
  p1 := 0xCF
  sb := Config.ioReset 0x01
  sc := 0x7E
  div := 0xAB
  tima := Config.ioReset 0x05
  tma := Config.ioReset 0x06
  tac := 0xF8
  ifr := 0xE1
  lcdc := 0x91
  stat := 0x85
  scy := Config.ioReset 0x42
  scx := Config.ioReset 0x43
  ly := 0x00
  lyc := Config.ioReset 0x45
  dma := Config.ioReset 0x46
  bgp := 0xFC
  obp0 := Config.ioReset 0x48
  obp1 := Config.ioReset 0x49
  wy := Config.ioReset 0x4A
  wx := Config.ioReset 0x4B
  plain := []

/-- PPU reset values (R56). -/
def Ppu.reset : Ppu where
  mode := .oamScan
  line := 0
  acc := 0
  winLine := 0
  lycLatch := false
  frameReady := false
  fb := []
  bgi := []

/-- All buttons released (R61). -/
def Buttons.released : Buttons := ⟨false, false, false, false, false, false, false, false⟩

/-- MBC1 reset values (R53). -/
def Mbc1.reset : Mbc1 := ⟨false, 1, 0, false⟩

/-- MBC3 reset values (R54). -/
def Mbc3.reset : Mbc3 := ⟨false, 1, 0⟩

/-- The controller's registers at their reset values (R63); the kind stays. -/
def Mbc.reset : Mbc → Mbc
  | .noMbc => .noMbc
  | .mbc1 _ => .mbc1 Mbc1.reset
  | .mbc3 _ => .mbc3 Mbc3.reset

/-- The byte at 0x0147 that a controller code stands for (R111). -/
def MbcCode.byte : MbcCode → Byte
  | .romOnly => 0x00
  | .mbc1 => 0x01
  | .mbc1Ram => 0x02
  | .mbc1RamBattery => 0x03
  | .mbc3 => 0x11
  | .mbc3Ram => 0x12
  | .mbc3RamBattery => 0x13

/-- The controller a code selects (R111), at its reset values. -/
def MbcCode.mbc : MbcCode → Mbc
  | .romOnly => .noMbc
  | .mbc1 | .mbc1Ram | .mbc1RamBattery => .mbc1 Mbc1.reset
  | .mbc3 | .mbc3Ram | .mbc3RamBattery => .mbc3 Mbc3.reset

/-- The byte at 0x0148 that declares a ROM size (R112). -/
def RomSize.byte : RomSize → Byte
  | .kib32 => 0
  | .kib64 => 1
  | .kib128 => 2
  | .kib256 => 3
  | .kib512 => 4
  | .kib1024 => 5
  | .kib2048 => 6

/-- The byte at 0x0149 that declares a RAM size (R113). -/
def RamSize.byte : RamSize → Byte
  | .none => 0
  | .kib2 => 1
  | .kib8 => 2
  | .kib32 => 3
  | .kib128 => 4
  | .kib64 => 5

/-- The cartridge of `State.reset` (log 6): the per-run parameters of R6 left free. Its image is the free `Config.romByte`
but for the three header bytes, which say what the free `Config.header` says (R111 to R113); the title is that of the
image (R110). -/
def Cart.inserted : Cart where
  title := ((List.range 16).map (fun i => Config.romByte (0x134 + i))).takeWhile (fun b => b != 0)
  romSize := Config.header.romSize
  ramSize := Config.header.ramSize
  rom := [(0x147, Config.header.code.byte), (0x148, Config.header.romSize.byte), (0x149, Config.header.ramSize.byte)]
  mbc := Config.header.code.mbc
  xram := []

/-- The power-on state with cartridge `c` (R450), after `epoch` earlier resets: every field of R30 and R63, the header
invariants and the ROM image kept, all RAM open again. -/
def State.powerOn (c : Cart) (epoch : Nat) : State where
  cpu := Cpu.reset
  vram := []
  wram := []
  oam := []
  hram := []
  io := IoFile.reset
  ie := 0x00
  cart := { c with mbc := c.mbc.reset, xram := [] }
  ppu := Ppu.reset
  timer := ⟨0, 0⟩
  joypad := ⟨Buttons.released, Buttons.released⟩
  frameTotal := 0
  cycles := 0
  epoch := epoch

/-- The machine right after reset, with an arbitrary cartridge (log 6). -/
def State.reset : State := State.powerOn Cart.inserted 0

end Sys2Proof.Machine
end

