-- ==== Sys2Proof/Machine/Memory.lean ====
section
/-! DEFINITION. The one form of sparse data, its read and its write. The form is canonical: indices strictly rise, and
an index is listed exactly when something was stored there, so equal contents are equal lists. Reading an index that is
not listed gives `none` here; the array that is read says what the machine then sees (log 1, 2, 3, 5). -/

namespace Sys2Proof.Machine

/-- The entry at index `i`, if one is listed. -/
def Store.get? {α : Type} : Store α → Nat → Option α
  | [], _ => none
  | (k, v) :: m, i => if k = i then some v else Store.get? m i

/-- `m` with `v` at index `i`. -/
def Store.put {α : Type} : Store α → Nat → α → Store α
  | [], i, v => [(i, v)]
  | (k, w) :: m, i, v =>
    if i < k then (i, v) :: (k, w) :: m
    else if i = k then (i, v) :: m
    else (k, w) :: Store.put m i v

/-- The canonical form: indices strictly rise. -/
abbrev Store.wf {α : Type} (m : Store α) : Prop := m.Pairwise (fun x y => x.1 < y.1)

/-- The canonical form of a byte array. An entry is a byte and an unlisted index holds none, so no entry equals what an
unlisted index holds. -/
abbrev Memory.wf (m : Memory) : Prop := Store.wf m

/-- The byte at index `i` of a byte array whose unlisted bytes are given by `free`. -/
def Memory.byteAt (m : Memory) (free : Byte) (i : Nat) : Byte := (Store.get? m i).getD free

end Sys2Proof.Machine
end

