-- ==== Sys2Proof/Machine/Cart.lean ====
section
/-! DEFINITION. The cartridge (20_memory.md section 5): bank arithmetic (R116), the windows of the three kinds of
controller (R118 to R125), control writes. -/

namespace Sys2Proof.Machine

/-- `ROM_BANKS` (R112). -/
def RomSize.banks : RomSize → Nat
  | .kib32 => 2
  | .kib64 => 4
  | .kib128 => 8
  | .kib256 => 16
  | .kib512 => 32
  | .kib1024 => 64
  | .kib2048 => 128

/-- `RAM_SIZE` in bytes (R113). -/
def RamSize.bytes : RamSize → Nat
  | .none => 0
  | .kib2 => 2048
  | .kib8 => 8192
  | .kib32 => 32768
  | .kib128 => 131072
  | .kib64 => 65536

/-- `RAM_BANKS` (R113). -/
def RamSize.banks : RamSize → Nat
  | .none => 0
  | .kib2 => 1
  | .kib8 => 1
  | .kib32 => 4
  | .kib128 => 16
  | .kib64 => 8

/-- The index in the ROM image of offset `off` of bank `bank` (R116). -/
def romIndex (c : Cart) (bank off : Nat) : Nat := (bank &&& (c.romSize.banks - 1)) * 0x4000 + off

/-- `RamAddr(bank, off)` (R116), for a cartridge that has RAM. -/
def ramIndex (c : Cart) (bank off : Nat) : Nat :=
  ((bank &&& (c.ramSize.banks - 1)) * 0x2000 + off) % c.ramSize.bytes

/-- The bank in the window 0x0000..0x3FFF (R118, R120, R124). -/
def lowBank (c : Cart) : Nat :=
  match c.mbc with
  | .noMbc => 0
  | .mbc1 r => if r.mode then r.high.toNat <<< 5 else 0
  | .mbc3 _ => 0

/-- The bank in the window 0x4000..0x7FFF (R118, R121, R124). -/
def highBank (c : Cart) : Nat :=
  match c.mbc with
  | .noMbc => 1
  | .mbc1 r => (r.high.toNat <<< 5) ||| r.romLow.toNat
  | .mbc3 r => r.romBank.toNat

/-- The bank of external RAM in the window 0xA000..0xBFFF; `none` where the window shows no RAM because it is disabled,
absent, or a select that is no RAM bank (R118, R122, R125). -/
def ramBank (c : Cart) : Option Nat :=
  if c.ramSize.bytes = 0 then none
  else
    match c.mbc with
    | .noMbc => some 0
    | .mbc1 r => if r.ramEnable then some (if r.mode then r.high.toNat else 0) else none
    | .mbc3 r => if r.ramEnable ∧ r.ramSel.toNat < 4 then some r.ramSel.toNat else none

/-- The index in `XRAM` that offset `off` of the RAM window shows, if it shows any. -/
def xramIndex (c : Cart) (off : Nat) : Option Nat := (ramBank c).map (fun bank => ramIndex c bank off)

/-- A byte of the ROM image: the cartridge's own, or the free image byte where none is given (log 2). -/
def romAt (c : Cart) (i : Nat) : Byte := c.rom.byteAt (Config.romByte i) i

/-- `CartReadBank0(off)`. -/
def cartReadBank0 (c : Cart) (off : Nat) : Byte := romAt c (romIndex c (lowBank c) off)

/-- `CartReadBankN(off)`. -/
def cartReadBankN (c : Cart) (off : Nat) : Byte := romAt c (romIndex c (highBank c) off)

/-- `CartReadRam(off)`: 0xFF where the window shows no RAM. -/
def cartReadRam (c : Cart) (epoch off : Nat) : Byte :=
  match xramIndex c off with
  | some i => c.xram.byteAt (Config.ramInit epoch .xram i) i
  | none => 0xFF

/-- `CartWriteRam(off, v)`: dropped where the window shows no RAM. -/
def cartWriteRam (c : Cart) (off : Nat) (v : Byte) : Cart :=
  match xramIndex c off with
  | some i => { c with xram := Store.put c.xram i v }
  | none => c

/-- `v & 0x0F == 0x0A`, the value that enables external RAM (R119, R123). -/
def enablesRam (v : Byte) : Bool := lowNibbleIs v 0xA
where
  /-- The low nibble of `v` is `n`. -/
  lowNibbleIs (v : Byte) (n : Nat) : Bool := v.toNat % 16 == n

/-- `Mbc1` control writes (R119): `a` is the address, 0..0x7FFF. -/
def mbc1Write (r : Mbc1) (a : Nat) (v : Byte) : Mbc1 :=
  if a < 0x2000 then { r with ramEnable := enablesRam v }
  else if a < 0x4000 then
    { r with romLow := if v.setWidth 5 = 0#5 then 1#5 else v.setWidth 5 }
  else if a < 0x6000 then { r with high := v.setWidth 2 }
  else { r with mode := v.getLsbD 0 }

/-- `Mbc3` control writes (R123). -/
def mbc3Write (r : Mbc3) (a : Nat) (v : Byte) : Mbc3 :=
  if a < 0x2000 then { r with ramEnable := enablesRam v }
  else if a < 0x4000 then
    { r with romBank := if v.setWidth 7 = 0#7 then 1#7 else v.setWidth 7 }
  else if a < 0x6000 then { r with ramSel := v.setWidth 4 }
  else r

/-- `CartWriteControl(addr, v)` (R118, R119, R123). No write changes the ROM image. -/
def cartWriteControl (c : Cart) (a : Nat) (v : Byte) : Cart :=
  match c.mbc with
  | .noMbc => c
  | .mbc1 r => { c with mbc := .mbc1 (mbc1Write r a v) }
  | .mbc3 r => { c with mbc := .mbc3 (mbc3Write r a v) }

end Sys2Proof.Machine
end

