-- ==== Sys2Proof/Machine/Bits.lean ====
section
/-! DEFINITION. Bytes of words and sign extension (00_scope.md R7, R8). -/

namespace Sys2Proof.Machine

/-- `v[15:8]`. -/
def hiByte (v : Word) : Byte := v.extractLsb' 8 8

/-- `v[7:0]`. -/
def loByte (v : Word) : Byte := v.extractLsb' 0 8

/-- `hi ++ lo` (R7). -/
def joinBytes (hi lo : Byte) : Word := hi ++ lo

/-- `sext_16(b)` (R8). -/
def sext16 (b : Byte) : Word := b.signExtend 16

/-- `zext_16(b)` (R8). -/
def zext16 (b : Byte) : Word := b.setWidth 16

/-- `b & 0xF` as a number. -/
def lowNibble (b : Byte) : Nat := b.toNat % 16

end Sys2Proof.Machine
end

