-- ==== Sys2Proof/Machine/Io.lean ====
section
/-! DEFINITION. Direct access to the I/O register file, without the hooks of a bus write (00_scope.md R14, 20_memory.md
R96), and the interrupt request bits in IF (60_exceptions.md R329, R331). -/

namespace Sys2Proof.Machine

/-- The listed registers (R33 to R48). -/
inductive IoReg where
  | p1 | sb | sc | div | tima | tma | tac | ifr | lcdc | stat | scy | scx | ly | lyc | dma | bgp | obp0 | obp1 | wy | wx
deriving DecidableEq, Repr

/-- Offset of a register from 0xFF00 (R33 to R48). -/
def IoReg.offset : IoReg → Nat
  | .p1 => 0x00
  | .sb => 0x01
  | .sc => 0x02
  | .div => 0x04
  | .tima => 0x05
  | .tma => 0x06
  | .tac => 0x07
  | .ifr => 0x0F
  | .lcdc => 0x40
  | .stat => 0x41
  | .scy => 0x42
  | .scx => 0x43
  | .ly => 0x44
  | .lyc => 0x45
  | .dma => 0x46
  | .bgp => 0x47
  | .obp0 => 0x48
  | .obp1 => 0x49
  | .wy => 0x4A
  | .wx => 0x4B

/-- The register at an offset; `none` for the offsets without a function (R50). -/
def IoReg.at? (off : Nat) : Option IoReg :=
  [IoReg.p1, .sb, .sc, .div, .tima, .tma, .tac, .ifr, .lcdc, .stat, .scy, .scx, .ly, .lyc, .dma, .bgp, .obp0, .obp1,
    .wy, .wx].find? (fun r => r.offset == off)

/-- The value of a register. -/
def IoFile.reg (io : IoFile) : IoReg → Byte
  | .p1 => io.p1
  | .sb => io.sb
  | .sc => io.sc
  | .div => io.div
  | .tima => io.tima
  | .tma => io.tma
  | .tac => io.tac
  | .ifr => io.ifr
  | .lcdc => io.lcdc
  | .stat => io.stat
  | .scy => io.scy
  | .scx => io.scx
  | .ly => io.ly
  | .lyc => io.lyc
  | .dma => io.dma
  | .bgp => io.bgp
  | .obp0 => io.obp0
  | .obp1 => io.obp1
  | .wy => io.wy
  | .wx => io.wx

/-- The file with `v` in a register. -/
def IoFile.setReg (io : IoFile) (r : IoReg) (v : Byte) : IoFile :=
  match r with
  | .p1 => { io with p1 := v }
  | .sb => { io with sb := v }
  | .sc => { io with sc := v }
  | .div => { io with div := v }
  | .tima => { io with tima := v }
  | .tma => { io with tma := v }
  | .tac => { io with tac := v }
  | .ifr => { io with ifr := v }
  | .lcdc => { io with lcdc := v }
  | .stat => { io with stat := v }
  | .scy => { io with scy := v }
  | .scx => { io with scx := v }
  | .ly => { io with ly := v }
  | .lyc => { io with lyc := v }
  | .dma => { io with dma := v }
  | .bgp => { io with bgp := v }
  | .obp0 => { io with obp0 := v }
  | .obp1 => { io with obp1 := v }
  | .wy => { io with wy := v }
  | .wx => { io with wx := v }

/-- `IO[off]` (R14); a function-less byte nothing was stored in is the open `IO_RESET[off]` (log 3). -/
def IoFile.get (io : IoFile) (off : Nat) : Byte :=
  match IoReg.at? off with
  | some r => io.reg r
  | none => io.plain.byteAt (Config.ioReset off) off

/-- `IO[off] <- v` (R14). -/
def IoFile.set (io : IoFile) (off : Nat) (v : Byte) : IoFile :=
  match IoReg.at? off with
  | some r => io.setReg r v
  | none => { io with plain := Store.put io.plain off v }

/-- A direct store to a listed register. -/
def State.setIo (s : State) (r : IoReg) (v : Byte) : State := { s with io := s.io.setReg r v }

/-- The interrupt sources, in the order of their numbers 0 to 4 (R329). -/
inductive Irq where
  | vblank | stat | timer | serial | joypad
deriving DecidableEq, Repr

/-- The source's number k: its bit in IF and IE (R329). -/
def Irq.bit : Irq → Nat
  | .vblank => 0
  | .stat => 1
  | .timer => 2
  | .serial => 3
  | .joypad => 4

/-- The byte with bit k alone set. -/
def Irq.mask (k : Irq) : Byte := 1#8 <<< k.bit

/-- The handler address `0x0040 + 8*k` (R333). -/
def Irq.vector (k : Irq) : Word := BitVec.ofNat 16 (0x40 + 8 * k.bit)

/-- `RequestInterrupt(k)` (R331): a direct store, bit k of IF set. -/
def State.requestInterrupt (s : State) (k : Irq) : State := s.setIo .ifr (s.io.ifr ||| k.mask)

end Sys2Proof.Machine
end

