-- ==== Sys2Proof/Machine/Joypad.lean ====
section
/-! DEFINITION. The joypad (60_exceptions.md section 7): matrix, update, interrupt. -/

namespace Sys2Proof.Machine

/-- A matrix output: low when a selected key that drives it is pressed. -/
def matrixBit (selButtons selDirections button direction : Bool) : Bool :=
  !((selButtons && button) || (selDirections && direction))

/-- `Matrix(sel)` (R361): bits 3:0 from the select bits 5:4 of `p1`, both active low, and the buttons. -/
def matrix (btn : Buttons) (p1 : Byte) : BitVec 4 :=
  let buttons := !p1.getLsbD 5
  let directions := !p1.getLsbD 4
  BitVec.ofBool (matrixBit buttons directions btn.start btn.down) ++
    BitVec.ofBool (matrixBit buttons directions btn.select btn.up) ++
    BitVec.ofBool (matrixBit buttons directions btn.b btn.left) ++
    BitVec.ofBool (matrixBit buttons directions btn.a btn.right)

/-- The P1 value `0xC0 | sel | Matrix(sel)` (R361) for the select bits of `p1`. -/
def p1Value (btn : Buttons) (p1 : Byte) : Byte := 0xC0 ||| (p1 &&& 0x30) ||| (matrix btn p1).setWidth 8

/-- `JoypadUpdate()` (R362): recompute P1, request the interrupt if a matrix bit fell, take the snapshot. -/
def joypadUpdate (s : State) : State :=
  let old := s.io.p1 &&& 0x0F
  let new := p1Value s.joypad.btn s.io.p1
  let t := s.setIo .p1 new
  let u := if old &&& ~~~new &&& 0x0F = 0#8 then t else t.requestInterrupt .joypad
  { u with joypad := { u.joypad with btnPrev := u.joypad.btn } }

/-- The P1 write hook (R86): bits 5:4 of `v` are kept, then the update runs. -/
def writeP1 (s : State) (v : Byte) : State :=
  joypadUpdate (s.setIo .p1 (0xC0 ||| (v &&& 0x30) ||| (s.io.p1 &&& 0x0F)))

end Sys2Proof.Machine
end

