-- ==== Sys2Proof/Machine/Ppu.lean ====
section
/-! DEFINITION. The PPU (60_exceptions.md section 8): modes, LY and LYC, scanline rendering. It reads VRAM, OAM and its
registers directly, as they stand after the CPU instruction of the same machine step (R108). -/

namespace Sys2Proof.Machine

/-- Mode number in STAT bits 1:0 (R41). -/
def PpuMode.bits : PpuMode → Byte
  | .hBlank => 0
  | .vBlank => 1
  | .oamScan => 2
  | .drawing => 3

/-- Cycles of a mode, for mode 1 of one of its lines (R370). -/
def PpuMode.duration : PpuMode → Nat
  | .oamScan => 80
  | .drawing => 172
  | .hBlank => 204
  | .vBlank => 456

/-- The STAT enable bit of a mode's interrupt source; mode 3 has none (R373). -/
def PpuMode.statEnable (m : PpuMode) (stat : Byte) : Bool :=
  match m with
  | .hBlank => stat.getLsbD 3
  | .vBlank => stat.getLsbD 4
  | .oamScan => stat.getLsbD 5
  | .drawing => false

/-- A byte of VRAM by index. -/
def vramAt (s : State) (i : Nat) : Byte := s.vram.byteAt (Config.ramInit s.epoch .vram i) i

/-- A byte of OAM by index. -/
def oamAt (s : State) (i : Nat) : Byte := s.oam.byteAt (Config.ramInit s.epoch .oam i) i

/-! ### Rendering -/

/-- One pixel of the line being rendered: its background colour index (`BGI`) and its shade (`FB`). -/
structure Pixel where
  bgi : BitVec 2
  shade : BitVec 2
deriving DecidableEq, Repr, Inhabited

/-- `TilePixel(addr, row, col)` (R378); `base` is `addr - 0x8000`. -/
def tilePixel (s : State) (base row col : Nat) : BitVec 2 :=
  let lo := vramAt s (base + 2 * row)
  let hi := vramAt s (base + 2 * row + 1)
  BitVec.ofBool (hi.getLsbD (7 - col)) ++ BitVec.ofBool (lo.getLsbD (7 - col))

/-- `Shade(pal, idx) = (pal >> (2*idx)) & 3` (R378). -/
def shadeOf (pal : Byte) (idx : BitVec 2) : BitVec 2 := (pal >>> (2 * idx.toNat)).setWidth 2

/-- `BgTileAddr(t) - 0x8000` (R378): unsigned from 0x8000, or signed from 0x9000, by LCDC bit 4. -/
def bgTileBase (s : State) (t : Byte) : Nat :=
  if s.io.lcdc.getLsbD 4 then 16 * t.toNat
  else if t.toNat < 128 then 0x1000 + 16 * t.toNat
  else 0x0800 + 16 * (t.toNat - 128)

/-- The index in VRAM of the tile map a LCDC bit selects: 0x9800 or 0x9C00 (R40). -/
def mapBase (bit : Bool) : Nat := if bit then 0x1C00 else 0x1800

/-- The pixel at column `px`, row `py` of a 256 by 256 tile map, through BGP (R379, R380). -/
def mapPixel (s : State) (base px py : Nat) : Pixel :=
  let t := vramAt s (base + 32 * (py / 8) + px / 8)
  let idx := tilePixel s (bgTileBase s t) (py % 8) (px % 8)
  ⟨idx, shadeOf s.io.bgp idx⟩

/-- The background pass on line `ly` (R379). -/
def backgroundPass (s : State) (ly : Nat) : List Pixel :=
  if s.io.lcdc.getLsbD 0 then
    (List.range 160).map (fun x =>
      mapPixel s (mapBase (s.io.lcdc.getLsbD 3)) ((x + s.io.scx.toNat) % 256) ((ly + s.io.scy.toNat) % 256))
  else List.replicate 160 ⟨0, shadeOf s.io.bgp 0⟩

/-- The window is enabled and has begun on line `ly` (R380). -/
def windowOn (s : State) (ly : Nat) : Bool := s.io.lcdc.getLsbD 5 && decide (s.io.wy.toNat ≤ ly)

/-- The window pass (R380): column `x` is a window pixel iff `WX - 7 ≤ x`, and is then column `x - (WX - 7)` of the
window, taken from row `win_line` of the window's map. -/
def windowPass (s : State) (ly : Nat) (row : List Pixel) : List Pixel :=
  if windowOn s ly then
    row.mapIdx (fun x p =>
      if s.io.wx.toNat ≤ x + 7 then
        mapPixel s (mapBase (s.io.lcdc.getLsbD 6)) (x + 7 - s.io.wx.toNat) s.ppu.winLine.toNat
      else p)
  else row

/-- At least one window pixel is emitted on line `ly`: `WX - 7 < 160` (R380). -/
def windowDrawn (s : State) (ly : Nat) : Bool := windowOn s ly && decide (s.io.wx.toNat < 167)

/-- An OAM entry (R381): its index and its four bytes. -/
structure Sprite where
  index : Nat
  y : Byte
  x : Byte
  tile : Byte
  flags : Byte
deriving DecidableEq, Repr

/-- OAM entry `i`. -/
def spriteAt (s : State) (i : Nat) : Sprite :=
  ⟨i, oamAt s (4 * i), oamAt s (4 * i + 1), oamAt s (4 * i + 2), oamAt s (4 * i + 3)⟩

/-- Sprite height, by LCDC bit 2 (R381). -/
def spriteHeight (s : State) : Nat := if s.io.lcdc.getLsbD 2 then 16 else 8

/-- `y - 16 ≤ ly < y - 16 + h` (R382), without negative numbers. -/
def Sprite.onLine (sp : Sprite) (h ly : Nat) : Bool :=
  decide (sp.y.toNat ≤ ly + 16) && decide (ly + 16 < sp.y.toNat + h)

/-- The first ten entries, in OAM order, that are on the line (R382). -/
def spriteCandidates (s : State) (ly : Nat) : List Sprite :=
  (((List.range 40).map (spriteAt s)).filter (fun sp => sp.onLine (spriteHeight s) ly)).take 10

/-- Insertion into a list sorted by `(x, index)` ascending. -/
def insertSprite (sp : Sprite) : List Sprite → List Sprite
  | [] => [sp]
  | q :: rest =>
    if sp.x.toNat < q.x.toNat ∨ (sp.x.toNat = q.x.toNat ∧ sp.index < q.index) then sp :: q :: rest
    else q :: insertSprite sp rest

/-- The candidates sorted by `(x, index)` ascending, the first with the highest priority (R383). -/
def spriteOrder (l : List Sprite) : List Sprite := l.foldr insertSprite []

/-- Pixel column `px` of one sprite (R384): skipped when transparent, off screen, or behind a non-zero background. -/
def drawSpritePixel (s : State) (ly : Nat) (sp : Sprite) (row : List Pixel) (px : Nat) : List Pixel :=
  let h := spriteHeight s
  let line := ly + 16 - sp.y.toNat
  let tileRow := if sp.flags.getLsbD 6 then h - 1 - line else line
  let t := if h = 16 then sp.tile &&& 0xFE else sp.tile
  let pal := if sp.flags.getLsbD 4 then s.io.obp1 else s.io.obp0
  let col := if sp.flags.getLsbD 5 then 7 - px else px
  let idx := tilePixel s (16 * t.toNat) tileRow col
  let sx := sp.x.toNat + px
  if idx = 0#2 then row
  else if sx < 8 ∨ 168 ≤ sx then row
  else if sp.flags.getLsbD 7 ∧ (row.getD (sx - 8) default).bgi ≠ 0#2 then row
  else row.modify (sx - 8) (fun p => { p with shade := shadeOf pal idx })

/-- `DrawSprite` (R384): the eight columns. -/
def drawSprite (s : State) (ly : Nat) (sp : Sprite) (row : List Pixel) : List Pixel :=
  (List.range 8).foldl (drawSpritePixel s ly sp) row

/-- The sprite pass (R381): lowest priority first, so the first of the order lands last. -/
def spritePass (s : State) (ly : Nat) (row : List Pixel) : List Pixel :=
  if s.io.lcdc.getLsbD 1 then
    (spriteOrder (spriteCandidates s ly)).foldr (drawSprite s ly) row
  else row

/-- The 160 pixels of line `ly`: background, window, sprites (R378). -/
def linePixels (s : State) (ly : Nat) : List Pixel :=
  spritePass s ly (windowPass s ly (backgroundPass s ly))

/-- `RenderLine(ly)` (R378): rows `ly` of `FB` and `BGI`, and the window line counter (R380). -/
def renderLine (s : State) (ly : Nat) : State :=
  let row := linePixels s ly
  { s with ppu := { s.ppu with
      fb := Store.put s.ppu.fb ly (row.map Pixel.shade)
      bgi := Store.put s.ppu.bgi ly (row.map Pixel.bgi)
      winLine := if windowDrawn s ly then s.ppu.winLine + 1 else s.ppu.winLine } }

/-! ### Modes -/

/-- `EnterMode(m)` (R373). -/
def enterMode (m : PpuMode) (s : State) : State :=
  let t := { s with ppu := { s.ppu with mode := m } }.setIo .stat ((s.io.stat &&& 0xFC) ||| m.bits)
  if m.statEnable t.io.stat then t.requestInterrupt .stat else t

/-- `LycCheck()` (R376). -/
def lycCheck (s : State) : State :=
  if s.io.ly = s.io.lyc then
    let t := s.setIo .stat (s.io.stat ||| 0x04)
    if s.ppu.lycLatch then t
    else
      let u := { t with ppu := { t.ppu with lycLatch := true } }
      if t.io.stat.getLsbD 6 then u.requestInterrupt .stat else u
  else
    let t := s.setIo .stat (s.io.stat &&& 0xFB)
    { t with ppu := { t.ppu with lycLatch := false } }

/-- `line <- n; WriteLY()` (R375). -/
def setLine (n : Nat) (s : State) : State :=
  lycCheck ({ s with ppu := { s.ppu with line := n } }.setIo .ly (BitVec.ofNat 8 n))

/-- `LcdOffReset()` (R372). -/
def lcdOffReset (s : State) : State :=
  if s.ppu.line = 0 ∧ s.ppu.mode = .oamScan ∧ s.ppu.acc = 0 then s
  else
    ({ s with ppu := { s.ppu with line := 0, mode := .oamScan, acc := 0 } }.setIo .ly 0).setIo .stat
      ((s.io.stat &&& 0xFC) ||| 2)

/-- The transition at the end of the current mode, its cycles taken from the accumulator (R371, R374). -/
def ppuTransition (s : State) : State :=
  let t := { s with ppu := { s.ppu with acc := s.ppu.acc - s.ppu.mode.duration } }
  match s.ppu.mode with
  | .oamScan => enterMode .drawing t
  | .drawing => enterMode .hBlank (renderLine t t.ppu.line)
  | .hBlank =>
    let u := setLine (t.ppu.line + 1) t
    if u.ppu.line = 144 then
      let v := (enterMode .vBlank u).requestInterrupt .vblank
      { v with ppu := { v.ppu with frameReady := true } }
    else enterMode .oamScan u
  | .vBlank =>
    if 153 < t.ppu.line + 1 then
      enterMode .oamScan (setLine 0 { t with ppu := { t.ppu with winLine := 0 } })
    else setLine (t.ppu.line + 1) t

/-- The loop of R371, at most `n` transitions. -/
def ppuLoop : Nat → State → State
  | 0, s => s
  | n + 1, s => if s.ppu.acc < s.ppu.mode.duration then s else ppuLoop n (ppuTransition s)

/-- `PpuStep(c)` (R371). A transition takes at least 80 cycles, so `acc / 80 + 1` rounds reach the loop's exit (log 14). -/
def ppuStep (c : Nat) (s : State) : State :=
  if s.io.lcdc.getLsbD 7 then
    let t := { s with ppu := { s.ppu with acc := s.ppu.acc + c } }
    ppuLoop (t.ppu.acc / 80 + 1) t
  else lcdOffReset s

end Sys2Proof.Machine
end

