-- ==== Sys2Proof/Machine/Bus.lean ====
section
/-! DEFINITION. The bus (20_memory.md sections 1 and 2): where an address lies, the read, the write with its hooks, the
OAM DMA copy. -/

namespace Sys2Proof.Machine

/-- What an address selects (R71), with the index inside it. Echo addresses select WRAM (R74). -/
inductive Loc where
  | bank0 (off : Nat)
  | bankN (off : Nat)
  | vram (i : Nat)
  | xram (off : Nat)
  | wram (i : Nat)
  | oam (i : Nat)
  | unusable
  | io (off : Nat)
  | hram (i : Nat)
  | ie
deriving DecidableEq, Repr

/-- The region table (R71). -/
def locate (addr : Word) : Loc :=
  let a := addr.toNat
  if a < 0x4000 then .bank0 a
  else if a < 0x8000 then .bankN (a - 0x4000)
  else if a < 0xA000 then .vram (a - 0x8000)
  else if a < 0xC000 then .xram (a - 0xA000)
  else if a < 0xE000 then .wram (a - 0xC000)
  else if a < 0xFE00 then .wram (a - 0xE000)
  else if a < 0xFEA0 then .oam (a - 0xFE00)
  else if a < 0xFF00 then .unusable
  else if a < 0xFF80 then .io (a - 0xFF00)
  else if a < 0xFFFF then .hram (a - 0xFF80)
  else .ie

/-- A byte of WRAM by index. -/
def wramAt (s : State) (i : Nat) : Byte := s.wram.byteAt (Config.ramInit s.epoch .wram i) i

/-- A byte of HRAM by index. -/
def hramAt (s : State) (i : Nat) : Byte := s.hram.byteAt (Config.ramInit s.epoch .hram i) i

/-- What a read of a location returns (R72, R84). -/
def readLoc (s : State) : Loc → Byte
  | .bank0 off => cartReadBank0 s.cart off
  | .bankN off => cartReadBankN s.cart off
  | .vram i => vramAt s i
  | .xram off => cartReadRam s.cart s.epoch off
  | .wram i => wramAt s i
  | .oam i => oamAt s i
  | .unusable => 0xFF
  | .io off => s.io.get off
  | .hram i => hramAt s i
  | .ie => s.ie

/-- `MemRead(addr, 1)` (R72): a byte, and no change of state. -/
def busRead (s : State) (addr : Word) : Byte := readLoc s (locate addr)

/-- One byte of the DMA copy: `OAM[i] <- BusRead((v << 8) + i)` (R95). -/
def dmaByte (v : Byte) (s : State) (i : Nat) : State :=
  { s with oam := Store.put s.oam i (busRead s (BitVec.ofNat 16 (v.toNat * 256 + i))) }

/-- `DmaCopy(v)` (R95): 160 bytes, ascending, each read seeing the bytes already copied. -/
def dmaCopy (v : Byte) (s : State) : State := (List.range 160).foldl (dmaByte v) s

/-- `IoWrite(off, v)` (R85 to R94): the hook of the offset, or plain storage. -/
def ioWrite (s : State) (off : Nat) (v : Byte) : State :=
  match IoReg.at? off with
  | some .p1 => writeP1 s v
  | some .div => { s.setIo .div 0 with timer := { s.timer with divAcc := 0 } }
  | some .lcdc =>
    let t := s.setIo .lcdc v
    if v.getLsbD 7 then t else lcdOffReset t
  | some .stat => s.setIo .stat ((s.io.stat &&& 0x87) ||| (v &&& 0x78))
  | some .ly => s
  | some .dma => dmaCopy v (s.setIo .dma v)
  | _ => { s with io := s.io.set off v }

/-- What a write to a location does (R73). `bank0` and `bankN` together are the range 0x0000..0x7FFF of control writes. -/
def writeLoc (s : State) (l : Loc) (v : Byte) : State :=
  match l with
  | .bank0 off => { s with cart := cartWriteControl s.cart off v }
  | .bankN off => { s with cart := cartWriteControl s.cart (0x4000 + off) v }
  | .vram i => { s with vram := Store.put s.vram i v }
  | .xram off => { s with cart := cartWriteRam s.cart off v }
  | .wram i => { s with wram := Store.put s.wram i v }
  | .oam i => { s with oam := Store.put s.oam i v }
  | .unusable => s
  | .io off => ioWrite s off v
  | .hram i => { s with hram := Store.put s.hram i v }
  | .ie => { s with ie := v }

/-- `MemWrite(addr, 1, v)` (R73), hooks included. -/
def busWrite (s : State) (addr : Word) (v : Byte) : State := writeLoc s (locate addr) v

/-- Not a machine operation: `v` placed from outside in the storage that backs a location, with no hook and no
controller write (log 12). Where a location has no storage (unusable range, RAM window that shows no RAM) nothing
changes. -/
def pokeLoc (s : State) (l : Loc) (v : Byte) : State :=
  match l with
  | .bank0 off => { s with cart := { s.cart with rom := Store.put s.cart.rom (romIndex s.cart (lowBank s.cart) off) v } }
  | .bankN off => { s with cart := { s.cart with rom := Store.put s.cart.rom (romIndex s.cart (highBank s.cart) off) v } }
  | .vram i => { s with vram := Store.put s.vram i v }
  | .xram off => { s with cart := cartWriteRam s.cart off v }
  | .wram i => { s with wram := Store.put s.wram i v }
  | .oam i => { s with oam := Store.put s.oam i v }
  | .unusable => s
  | .io off => { s with io := s.io.set off v }
  | .hram i => { s with hram := Store.put s.hram i v }
  | .ie => { s with ie := v }

/-- `pokeLoc` at an address. -/
def poke (s : State) (addr : Word) (v : Byte) : State := pokeLoc s (locate addr) v

end Sys2Proof.Machine
end

