-- ==== Sys2Proof/Syntax.lean ====
section
/-! DEFINITION. The abstract syntax: one constructor for each of the 511 rows of spec/opcode_table.json (30_encoding.md
R161), with the immediate operand as its only argument. The comment of a constructor gives its opcode byte (for the
prefixed rows 0xCB and the second byte), the spec's spelling and the rule that gives its meaning. -/

namespace Sys2Proof

/-- An instruction. Register operands, conditions, bit numbers and `RST` targets are in the constructor's name, as they
are in the table's mnemonic; `Ind…` stands for a memory operand in parentheses, `Hli` and `Hld` for `(HL+)` and `(HL-)`.
The immediate types admit exactly the values the encoding admits (R143).
The constructors with an immediate stand first (Lean's runtime numbers only the first 244 constructors that hold data). -/
inductive Instr where
  | ldBcN16 (n16 : Word)  -- 0x01  LD BC,n16  R200
  | ldBN8 (n8 : Byte)  -- 0x06  LD B,n8  R171
  | ldIndA16Sp (a16 : Word)  -- 0x08  LD (a16),SP  R201
  | ldCN8 (n8 : Byte)  -- 0x0E  LD C,n8  R171
  | stop (n8 : Byte)  -- 0x10  STOP  R292
  | ldDeN16 (n16 : Word)  -- 0x11  LD DE,n16  R200
  | ldDN8 (n8 : Byte)  -- 0x16  LD D,n8  R171
  | jrE8 (e8 : Byte)  -- 0x18  JR e8  R274
  | ldEN8 (n8 : Byte)  -- 0x1E  LD E,n8  R171
  | jrNzE8 (e8 : Byte)  -- 0x20  JR NZ,e8  R275
  | ldHlN16 (n16 : Word)  -- 0x21  LD HL,n16  R200
  | ldHN8 (n8 : Byte)  -- 0x26  LD H,n8  R171
  | jrZE8 (e8 : Byte)  -- 0x28  JR Z,e8  R275
  | ldLN8 (n8 : Byte)  -- 0x2E  LD L,n8  R171
  | jrNcE8 (e8 : Byte)  -- 0x30  JR NC,e8  R275
  | ldSpN16 (n16 : Word)  -- 0x31  LD SP,n16  R200
  | ldIndHlN8 (n8 : Byte)  -- 0x36  LD (HL),n8  R174
  | jrCE8 (e8 : Byte)  -- 0x38  JR C,e8  R275
  | ldAN8 (n8 : Byte)  -- 0x3E  LD A,n8  R171
  | jpNzA16 (a16 : Word)  -- 0xC2  JP NZ,a16  R272
  | jpA16 (a16 : Word)  -- 0xC3  JP a16  R271
  | callNzA16 (a16 : Word)  -- 0xC4  CALL NZ,a16  R277
  | addAN8 (n8 : Byte)  -- 0xC6  ADD A,n8  R216
  | jpZA16 (a16 : Word)  -- 0xCA  JP Z,a16  R272
  | callZA16 (a16 : Word)  -- 0xCC  CALL Z,a16  R277
  | callA16 (a16 : Word)  -- 0xCD  CALL a16  R276
  | adcAN8 (n8 : Byte)  -- 0xCE  ADC A,n8  R217
  | jpNcA16 (a16 : Word)  -- 0xD2  JP NC,a16  R272
  | callNcA16 (a16 : Word)  -- 0xD4  CALL NC,a16  R277
  | subAN8 (n8 : Byte)  -- 0xD6  SUB A,n8  R218
  | jpCA16 (a16 : Word)  -- 0xDA  JP C,a16  R272
  | callCA16 (a16 : Word)  -- 0xDC  CALL C,a16  R277
  | sbcAN8 (n8 : Byte)  -- 0xDE  SBC A,n8  R219
  | ldhIndA8A (a8 : Byte)  -- 0xE0  LDH (a8),A  R184
  | andAN8 (n8 : Byte)  -- 0xE6  AND A,n8  R220
  | addSpE8 (e8 : Byte)  -- 0xE8  ADD SP,e8  R248
  | ldIndA16A (a16 : Word)  -- 0xEA  LD (a16),A  R180
  | xorAN8 (n8 : Byte)  -- 0xEE  XOR A,n8  R221
  | ldhAIndA8 (a8 : Byte)  -- 0xF0  LDH A,(a8)  R183
  | orAN8 (n8 : Byte)  -- 0xF6  OR A,n8  R222
  | ldHlSpE8 (e8 : Byte)  -- 0xF8  LD HL,SP+e8  R203
  | ldAIndA16 (a16 : Word)  -- 0xFA  LD A,(a16)  R179
  | cpAN8 (n8 : Byte)  -- 0xFE  CP A,n8  R223
  | nop  -- 0x00  NOP  R290
  | ldIndBcA  -- 0x02  LD (BC),A  R177
  | incBc  -- 0x03  INC BC  R245
  | incB  -- 0x04  INC B  R224
  | decB  -- 0x05  DEC B  R226
  | rlca  -- 0x07  RLCA  R255
  | addHlBc  -- 0x09  ADD HL,BC  R247
  | ldAIndBc  -- 0x0A  LD A,(BC)  R175
  | decBc  -- 0x0B  DEC BC  R246
  | incC  -- 0x0C  INC C  R224
  | decC  -- 0x0D  DEC C  R226
  | rrca  -- 0x0F  RRCA  R256
  | ldIndDeA  -- 0x12  LD (DE),A  R178
  | incDe  -- 0x13  INC DE  R245
  | incD  -- 0x14  INC D  R224
  | decD  -- 0x15  DEC D  R226
  | rla  -- 0x17  RLA  R257
  | addHlDe  -- 0x19  ADD HL,DE  R247
  | ldAIndDe  -- 0x1A  LD A,(DE)  R176
  | decDe  -- 0x1B  DEC DE  R246
  | incE  -- 0x1C  INC E  R224
  | decE  -- 0x1D  DEC E  R226
  | rra  -- 0x1F  RRA  R258
  | ldIndHliA  -- 0x22  LD (HL+),A  R185
  | incHl  -- 0x23  INC HL  R245
  | incH  -- 0x24  INC H  R224
  | decH  -- 0x25  DEC H  R226
  | daa  -- 0x27  DAA  R259
  | addHlHl  -- 0x29  ADD HL,HL  R247
  | ldAIndHli  -- 0x2A  LD A,(HL+)  R186
  | decHl  -- 0x2B  DEC HL  R246
  | incL  -- 0x2C  INC L  R224
  | decL  -- 0x2D  DEC L  R226
  | cpl  -- 0x2F  CPL  R260
  | ldIndHldA  -- 0x32  LD (HL-),A  R187
  | incSp  -- 0x33  INC SP  R245
  | incIndHl  -- 0x34  INC (HL)  R225
  | decIndHl  -- 0x35  DEC (HL)  R227
  | scf  -- 0x37  SCF  R261
  | addHlSp  -- 0x39  ADD HL,SP  R247
  | ldAIndHld  -- 0x3A  LD A,(HL-)  R188
  | decSp  -- 0x3B  DEC SP  R246
  | incA  -- 0x3C  INC A  R224
  | decA  -- 0x3D  DEC A  R226
  | ccf  -- 0x3F  CCF  R262
  | ldBB  -- 0x40  LD B,B  R170
  | ldBC  -- 0x41  LD B,C  R170
  | ldBD  -- 0x42  LD B,D  R170
  | ldBE  -- 0x43  LD B,E  R170
  | ldBH  -- 0x44  LD B,H  R170
  | ldBL  -- 0x45  LD B,L  R170
  | ldBIndHl  -- 0x46  LD B,(HL)  R172
  | ldBA  -- 0x47  LD B,A  R170
  | ldCB  -- 0x48  LD C,B  R170
  | ldCC  -- 0x49  LD C,C  R170
  | ldCD  -- 0x4A  LD C,D  R170
  | ldCE  -- 0x4B  LD C,E  R170
  | ldCH  -- 0x4C  LD C,H  R170
  | ldCL  -- 0x4D  LD C,L  R170
  | ldCIndHl  -- 0x4E  LD C,(HL)  R172
  | ldCA  -- 0x4F  LD C,A  R170
  | ldDB  -- 0x50  LD D,B  R170
  | ldDC  -- 0x51  LD D,C  R170
  | ldDD  -- 0x52  LD D,D  R170
  | ldDE  -- 0x53  LD D,E  R170
  | ldDH  -- 0x54  LD D,H  R170
  | ldDL  -- 0x55  LD D,L  R170
  | ldDIndHl  -- 0x56  LD D,(HL)  R172
  | ldDA  -- 0x57  LD D,A  R170
  | ldEB  -- 0x58  LD E,B  R170
  | ldEC  -- 0x59  LD E,C  R170
  | ldED  -- 0x5A  LD E,D  R170
  | ldEE  -- 0x5B  LD E,E  R170
  | ldEH  -- 0x5C  LD E,H  R170
  | ldEL  -- 0x5D  LD E,L  R170
  | ldEIndHl  -- 0x5E  LD E,(HL)  R172
  | ldEA  -- 0x5F  LD E,A  R170
  | ldHB  -- 0x60  LD H,B  R170
  | ldHC  -- 0x61  LD H,C  R170
  | ldHD  -- 0x62  LD H,D  R170
  | ldHE  -- 0x63  LD H,E  R170
  | ldHH  -- 0x64  LD H,H  R170
  | ldHL  -- 0x65  LD H,L  R170
  | ldHIndHl  -- 0x66  LD H,(HL)  R172
  | ldHA  -- 0x67  LD H,A  R170
  | ldLB  -- 0x68  LD L,B  R170
  | ldLC  -- 0x69  LD L,C  R170
  | ldLD  -- 0x6A  LD L,D  R170
  | ldLE  -- 0x6B  LD L,E  R170
  | ldLH  -- 0x6C  LD L,H  R170
  | ldLL  -- 0x6D  LD L,L  R170
  | ldLIndHl  -- 0x6E  LD L,(HL)  R172
  | ldLA  -- 0x6F  LD L,A  R170
  | ldIndHlB  -- 0x70  LD (HL),B  R173
  | ldIndHlC  -- 0x71  LD (HL),C  R173
  | ldIndHlD  -- 0x72  LD (HL),D  R173
  | ldIndHlE  -- 0x73  LD (HL),E  R173
  | ldIndHlH  -- 0x74  LD (HL),H  R173
  | ldIndHlL  -- 0x75  LD (HL),L  R173
  | halt  -- 0x76  HALT  R291
  | ldIndHlA  -- 0x77  LD (HL),A  R173
  | ldAB  -- 0x78  LD A,B  R170
  | ldAC  -- 0x79  LD A,C  R170
  | ldAD  -- 0x7A  LD A,D  R170
  | ldAE  -- 0x7B  LD A,E  R170
  | ldAH  -- 0x7C  LD A,H  R170
  | ldAL  -- 0x7D  LD A,L  R170
  | ldAIndHl  -- 0x7E  LD A,(HL)  R172
  | ldAA  -- 0x7F  LD A,A  R170
  | addAB  -- 0x80  ADD A,B  R216
  | addAC  -- 0x81  ADD A,C  R216
  | addAD  -- 0x82  ADD A,D  R216
  | addAE  -- 0x83  ADD A,E  R216
  | addAH  -- 0x84  ADD A,H  R216
  | addAL  -- 0x85  ADD A,L  R216
  | addAIndHl  -- 0x86  ADD A,(HL)  R216
  | addAA  -- 0x87  ADD A,A  R216
  | adcAB  -- 0x88  ADC A,B  R217
  | adcAC  -- 0x89  ADC A,C  R217
  | adcAD  -- 0x8A  ADC A,D  R217
  | adcAE  -- 0x8B  ADC A,E  R217
  | adcAH  -- 0x8C  ADC A,H  R217
  | adcAL  -- 0x8D  ADC A,L  R217
  | adcAIndHl  -- 0x8E  ADC A,(HL)  R217
  | adcAA  -- 0x8F  ADC A,A  R217
  | subAB  -- 0x90  SUB A,B  R218
  | subAC  -- 0x91  SUB A,C  R218
  | subAD  -- 0x92  SUB A,D  R218
  | subAE  -- 0x93  SUB A,E  R218
  | subAH  -- 0x94  SUB A,H  R218
  | subAL  -- 0x95  SUB A,L  R218
  | subAIndHl  -- 0x96  SUB A,(HL)  R218
  | subAA  -- 0x97  SUB A,A  R218
  | sbcAB  -- 0x98  SBC A,B  R219
  | sbcAC  -- 0x99  SBC A,C  R219
  | sbcAD  -- 0x9A  SBC A,D  R219
  | sbcAE  -- 0x9B  SBC A,E  R219
  | sbcAH  -- 0x9C  SBC A,H  R219
  | sbcAL  -- 0x9D  SBC A,L  R219
  | sbcAIndHl  -- 0x9E  SBC A,(HL)  R219
  | sbcAA  -- 0x9F  SBC A,A  R219
  | andAB  -- 0xA0  AND A,B  R220
  | andAC  -- 0xA1  AND A,C  R220
  | andAD  -- 0xA2  AND A,D  R220
  | andAE  -- 0xA3  AND A,E  R220
  | andAH  -- 0xA4  AND A,H  R220
  | andAL  -- 0xA5  AND A,L  R220
  | andAIndHl  -- 0xA6  AND A,(HL)  R220
  | andAA  -- 0xA7  AND A,A  R220
  | xorAB  -- 0xA8  XOR A,B  R221
  | xorAC  -- 0xA9  XOR A,C  R221
  | xorAD  -- 0xAA  XOR A,D  R221
  | xorAE  -- 0xAB  XOR A,E  R221
  | xorAH  -- 0xAC  XOR A,H  R221
  | xorAL  -- 0xAD  XOR A,L  R221
  | xorAIndHl  -- 0xAE  XOR A,(HL)  R221
  | xorAA  -- 0xAF  XOR A,A  R221
  | orAB  -- 0xB0  OR A,B  R222
  | orAC  -- 0xB1  OR A,C  R222
  | orAD  -- 0xB2  OR A,D  R222
  | orAE  -- 0xB3  OR A,E  R222
  | orAH  -- 0xB4  OR A,H  R222
  | orAL  -- 0xB5  OR A,L  R222
  | orAIndHl  -- 0xB6  OR A,(HL)  R222
  | orAA  -- 0xB7  OR A,A  R222
  | cpAB  -- 0xB8  CP A,B  R223
  | cpAC  -- 0xB9  CP A,C  R223
  | cpAD  -- 0xBA  CP A,D  R223
  | cpAE  -- 0xBB  CP A,E  R223
  | cpAH  -- 0xBC  CP A,H  R223
  | cpAL  -- 0xBD  CP A,L  R223
  | cpAIndHl  -- 0xBE  CP A,(HL)  R223
  | cpAA  -- 0xBF  CP A,A  R223
  | retNz  -- 0xC0  RET NZ  R279
  | popBc  -- 0xC1  POP BC  R206
  | pushBc  -- 0xC5  PUSH BC  R204
  | rst00  -- 0xC7  RST 0x00  R281
  | retZ  -- 0xC8  RET Z  R279
  | ret  -- 0xC9  RET  R278
  | rst08  -- 0xCF  RST 0x08  R281
  | retNc  -- 0xD0  RET NC  R279
  | popDe  -- 0xD1  POP DE  R206
  | illegalD3  -- 0xD3  ILLEGAL_0xD3  R295
  | pushDe  -- 0xD5  PUSH DE  R204
  | rst10  -- 0xD7  RST 0x10  R281
  | retC  -- 0xD8  RET C  R279
  | reti  -- 0xD9  RETI  R280
  | illegalDB  -- 0xDB  ILLEGAL_0xDB  R295
  | illegalDD  -- 0xDD  ILLEGAL_0xDD  R295
  | rst18  -- 0xDF  RST 0x18  R281
  | popHl  -- 0xE1  POP HL  R206
  | ldhIndCA  -- 0xE2  LDH (C),A  R182
  | illegalE3  -- 0xE3  ILLEGAL_0xE3  R295
  | illegalE4  -- 0xE4  ILLEGAL_0xE4  R295
  | pushHl  -- 0xE5  PUSH HL  R204
  | rst20  -- 0xE7  RST 0x20  R281
  | jpHl  -- 0xE9  JP HL  R273
  | illegalEB  -- 0xEB  ILLEGAL_0xEB  R295
  | illegalEC  -- 0xEC  ILLEGAL_0xEC  R295
  | illegalED  -- 0xED  ILLEGAL_0xED  R295
  | rst28  -- 0xEF  RST 0x28  R281
  | popAf  -- 0xF1  POP AF  R207
  | ldhAIndC  -- 0xF2  LDH A,(C)  R181
  | di  -- 0xF3  DI  R293
  | illegalF4  -- 0xF4  ILLEGAL_0xF4  R295
  | pushAf  -- 0xF5  PUSH AF  R205
  | rst30  -- 0xF7  RST 0x30  R281
  | ldSpHl  -- 0xF9  LD SP,HL  R202
  | ei  -- 0xFB  EI  R294
  | illegalFC  -- 0xFC  ILLEGAL_0xFC  R295
  | illegalFD  -- 0xFD  ILLEGAL_0xFD  R295
  | rst38  -- 0xFF  RST 0x38  R281
  | rlcB  -- 0xCB 0x00  RLC B  R301
  | rlcC  -- 0xCB 0x01  RLC C  R301
  | rlcD  -- 0xCB 0x02  RLC D  R301
  | rlcE  -- 0xCB 0x03  RLC E  R301
  | rlcH  -- 0xCB 0x04  RLC H  R301
  | rlcL  -- 0xCB 0x05  RLC L  R301
  | rlcIndHl  -- 0xCB 0x06  RLC (HL)  R301
  | rlcA  -- 0xCB 0x07  RLC A  R301
  | rrcB  -- 0xCB 0x08  RRC B  R302
  | rrcC  -- 0xCB 0x09  RRC C  R302
  | rrcD  -- 0xCB 0x0A  RRC D  R302
  | rrcE  -- 0xCB 0x0B  RRC E  R302
  | rrcH  -- 0xCB 0x0C  RRC H  R302
  | rrcL  -- 0xCB 0x0D  RRC L  R302
  | rrcIndHl  -- 0xCB 0x0E  RRC (HL)  R302
  | rrcA  -- 0xCB 0x0F  RRC A  R302
  | rlB  -- 0xCB 0x10  RL B  R303
  | rlC  -- 0xCB 0x11  RL C  R303
  | rlD  -- 0xCB 0x12  RL D  R303
  | rlE  -- 0xCB 0x13  RL E  R303
  | rlH  -- 0xCB 0x14  RL H  R303
  | rlL  -- 0xCB 0x15  RL L  R303
  | rlIndHl  -- 0xCB 0x16  RL (HL)  R303
  | rlA  -- 0xCB 0x17  RL A  R303
  | rrB  -- 0xCB 0x18  RR B  R304
  | rrC  -- 0xCB 0x19  RR C  R304
  | rrD  -- 0xCB 0x1A  RR D  R304
  | rrE  -- 0xCB 0x1B  RR E  R304
  | rrH  -- 0xCB 0x1C  RR H  R304
  | rrL  -- 0xCB 0x1D  RR L  R304
  | rrIndHl  -- 0xCB 0x1E  RR (HL)  R304
  | rrA  -- 0xCB 0x1F  RR A  R304
  | slaB  -- 0xCB 0x20  SLA B  R305
  | slaC  -- 0xCB 0x21  SLA C  R305
  | slaD  -- 0xCB 0x22  SLA D  R305
  | slaE  -- 0xCB 0x23  SLA E  R305
  | slaH  -- 0xCB 0x24  SLA H  R305
  | slaL  -- 0xCB 0x25  SLA L  R305
  | slaIndHl  -- 0xCB 0x26  SLA (HL)  R305
  | slaA  -- 0xCB 0x27  SLA A  R305
  | sraB  -- 0xCB 0x28  SRA B  R306
  | sraC  -- 0xCB 0x29  SRA C  R306
  | sraD  -- 0xCB 0x2A  SRA D  R306
  | sraE  -- 0xCB 0x2B  SRA E  R306
  | sraH  -- 0xCB 0x2C  SRA H  R306
  | sraL  -- 0xCB 0x2D  SRA L  R306
  | sraIndHl  -- 0xCB 0x2E  SRA (HL)  R306
  | sraA  -- 0xCB 0x2F  SRA A  R306
  | swapB  -- 0xCB 0x30  SWAP B  R307
  | swapC  -- 0xCB 0x31  SWAP C  R307
  | swapD  -- 0xCB 0x32  SWAP D  R307
  | swapE  -- 0xCB 0x33  SWAP E  R307
  | swapH  -- 0xCB 0x34  SWAP H  R307
  | swapL  -- 0xCB 0x35  SWAP L  R307
  | swapIndHl  -- 0xCB 0x36  SWAP (HL)  R307
  | swapA  -- 0xCB 0x37  SWAP A  R307
  | srlB  -- 0xCB 0x38  SRL B  R308
  | srlC  -- 0xCB 0x39  SRL C  R308
  | srlD  -- 0xCB 0x3A  SRL D  R308
  | srlE  -- 0xCB 0x3B  SRL E  R308
  | srlH  -- 0xCB 0x3C  SRL H  R308
  | srlL  -- 0xCB 0x3D  SRL L  R308
  | srlIndHl  -- 0xCB 0x3E  SRL (HL)  R308
  | srlA  -- 0xCB 0x3F  SRL A  R308
  | bit0B  -- 0xCB 0x40  BIT 0,B  R309
  | bit0C  -- 0xCB 0x41  BIT 0,C  R309
  | bit0D  -- 0xCB 0x42  BIT 0,D  R309
  | bit0E  -- 0xCB 0x43  BIT 0,E  R309
  | bit0H  -- 0xCB 0x44  BIT 0,H  R309
  | bit0L  -- 0xCB 0x45  BIT 0,L  R309
  | bit0IndHl  -- 0xCB 0x46  BIT 0,(HL)  R309
  | bit0A  -- 0xCB 0x47  BIT 0,A  R309
  | bit1B  -- 0xCB 0x48  BIT 1,B  R309
  | bit1C  -- 0xCB 0x49  BIT 1,C  R309
  | bit1D  -- 0xCB 0x4A  BIT 1,D  R309
  | bit1E  -- 0xCB 0x4B  BIT 1,E  R309
  | bit1H  -- 0xCB 0x4C  BIT 1,H  R309
  | bit1L  -- 0xCB 0x4D  BIT 1,L  R309
  | bit1IndHl  -- 0xCB 0x4E  BIT 1,(HL)  R309
  | bit1A  -- 0xCB 0x4F  BIT 1,A  R309
  | bit2B  -- 0xCB 0x50  BIT 2,B  R309
  | bit2C  -- 0xCB 0x51  BIT 2,C  R309
  | bit2D  -- 0xCB 0x52  BIT 2,D  R309
  | bit2E  -- 0xCB 0x53  BIT 2,E  R309
  | bit2H  -- 0xCB 0x54  BIT 2,H  R309
  | bit2L  -- 0xCB 0x55  BIT 2,L  R309
  | bit2IndHl  -- 0xCB 0x56  BIT 2,(HL)  R309
  | bit2A  -- 0xCB 0x57  BIT 2,A  R309
  | bit3B  -- 0xCB 0x58  BIT 3,B  R309
  | bit3C  -- 0xCB 0x59  BIT 3,C  R309
  | bit3D  -- 0xCB 0x5A  BIT 3,D  R309
  | bit3E  -- 0xCB 0x5B  BIT 3,E  R309
  | bit3H  -- 0xCB 0x5C  BIT 3,H  R309
  | bit3L  -- 0xCB 0x5D  BIT 3,L  R309
  | bit3IndHl  -- 0xCB 0x5E  BIT 3,(HL)  R309
  | bit3A  -- 0xCB 0x5F  BIT 3,A  R309
  | bit4B  -- 0xCB 0x60  BIT 4,B  R309
  | bit4C  -- 0xCB 0x61  BIT 4,C  R309
  | bit4D  -- 0xCB 0x62  BIT 4,D  R309
  | bit4E  -- 0xCB 0x63  BIT 4,E  R309
  | bit4H  -- 0xCB 0x64  BIT 4,H  R309
  | bit4L  -- 0xCB 0x65  BIT 4,L  R309
  | bit4IndHl  -- 0xCB 0x66  BIT 4,(HL)  R309
  | bit4A  -- 0xCB 0x67  BIT 4,A  R309
  | bit5B  -- 0xCB 0x68  BIT 5,B  R309
  | bit5C  -- 0xCB 0x69  BIT 5,C  R309
  | bit5D  -- 0xCB 0x6A  BIT 5,D  R309
  | bit5E  -- 0xCB 0x6B  BIT 5,E  R309
  | bit5H  -- 0xCB 0x6C  BIT 5,H  R309
  | bit5L  -- 0xCB 0x6D  BIT 5,L  R309
  | bit5IndHl  -- 0xCB 0x6E  BIT 5,(HL)  R309
  | bit5A  -- 0xCB 0x6F  BIT 5,A  R309
  | bit6B  -- 0xCB 0x70  BIT 6,B  R309
  | bit6C  -- 0xCB 0x71  BIT 6,C  R309
  | bit6D  -- 0xCB 0x72  BIT 6,D  R309
  | bit6E  -- 0xCB 0x73  BIT 6,E  R309
  | bit6H  -- 0xCB 0x74  BIT 6,H  R309
  | bit6L  -- 0xCB 0x75  BIT 6,L  R309
  | bit6IndHl  -- 0xCB 0x76  BIT 6,(HL)  R309
  | bit6A  -- 0xCB 0x77  BIT 6,A  R309
  | bit7B  -- 0xCB 0x78  BIT 7,B  R309
  | bit7C  -- 0xCB 0x79  BIT 7,C  R309
  | bit7D  -- 0xCB 0x7A  BIT 7,D  R309
  | bit7E  -- 0xCB 0x7B  BIT 7,E  R309
  | bit7H  -- 0xCB 0x7C  BIT 7,H  R309
  | bit7L  -- 0xCB 0x7D  BIT 7,L  R309
  | bit7IndHl  -- 0xCB 0x7E  BIT 7,(HL)  R309
  | bit7A  -- 0xCB 0x7F  BIT 7,A  R309
  | res0B  -- 0xCB 0x80  RES 0,B  R310
  | res0C  -- 0xCB 0x81  RES 0,C  R310
  | res0D  -- 0xCB 0x82  RES 0,D  R310
  | res0E  -- 0xCB 0x83  RES 0,E  R310
  | res0H  -- 0xCB 0x84  RES 0,H  R310
  | res0L  -- 0xCB 0x85  RES 0,L  R310
  | res0IndHl  -- 0xCB 0x86  RES 0,(HL)  R310
  | res0A  -- 0xCB 0x87  RES 0,A  R310
  | res1B  -- 0xCB 0x88  RES 1,B  R310
  | res1C  -- 0xCB 0x89  RES 1,C  R310
  | res1D  -- 0xCB 0x8A  RES 1,D  R310
  | res1E  -- 0xCB 0x8B  RES 1,E  R310
  | res1H  -- 0xCB 0x8C  RES 1,H  R310
  | res1L  -- 0xCB 0x8D  RES 1,L  R310
  | res1IndHl  -- 0xCB 0x8E  RES 1,(HL)  R310
  | res1A  -- 0xCB 0x8F  RES 1,A  R310
  | res2B  -- 0xCB 0x90  RES 2,B  R310
  | res2C  -- 0xCB 0x91  RES 2,C  R310
  | res2D  -- 0xCB 0x92  RES 2,D  R310
  | res2E  -- 0xCB 0x93  RES 2,E  R310
  | res2H  -- 0xCB 0x94  RES 2,H  R310
  | res2L  -- 0xCB 0x95  RES 2,L  R310
  | res2IndHl  -- 0xCB 0x96  RES 2,(HL)  R310
  | res2A  -- 0xCB 0x97  RES 2,A  R310
  | res3B  -- 0xCB 0x98  RES 3,B  R310
  | res3C  -- 0xCB 0x99  RES 3,C  R310
  | res3D  -- 0xCB 0x9A  RES 3,D  R310
  | res3E  -- 0xCB 0x9B  RES 3,E  R310
  | res3H  -- 0xCB 0x9C  RES 3,H  R310
  | res3L  -- 0xCB 0x9D  RES 3,L  R310
  | res3IndHl  -- 0xCB 0x9E  RES 3,(HL)  R310
  | res3A  -- 0xCB 0x9F  RES 3,A  R310
  | res4B  -- 0xCB 0xA0  RES 4,B  R310
  | res4C  -- 0xCB 0xA1  RES 4,C  R310
  | res4D  -- 0xCB 0xA2  RES 4,D  R310
  | res4E  -- 0xCB 0xA3  RES 4,E  R310
  | res4H  -- 0xCB 0xA4  RES 4,H  R310
  | res4L  -- 0xCB 0xA5  RES 4,L  R310
  | res4IndHl  -- 0xCB 0xA6  RES 4,(HL)  R310
  | res4A  -- 0xCB 0xA7  RES 4,A  R310
  | res5B  -- 0xCB 0xA8  RES 5,B  R310
  | res5C  -- 0xCB 0xA9  RES 5,C  R310
  | res5D  -- 0xCB 0xAA  RES 5,D  R310
  | res5E  -- 0xCB 0xAB  RES 5,E  R310
  | res5H  -- 0xCB 0xAC  RES 5,H  R310
  | res5L  -- 0xCB 0xAD  RES 5,L  R310
  | res5IndHl  -- 0xCB 0xAE  RES 5,(HL)  R310
  | res5A  -- 0xCB 0xAF  RES 5,A  R310
  | res6B  -- 0xCB 0xB0  RES 6,B  R310
  | res6C  -- 0xCB 0xB1  RES 6,C  R310
  | res6D  -- 0xCB 0xB2  RES 6,D  R310
  | res6E  -- 0xCB 0xB3  RES 6,E  R310
  | res6H  -- 0xCB 0xB4  RES 6,H  R310
  | res6L  -- 0xCB 0xB5  RES 6,L  R310
  | res6IndHl  -- 0xCB 0xB6  RES 6,(HL)  R310
  | res6A  -- 0xCB 0xB7  RES 6,A  R310
  | res7B  -- 0xCB 0xB8  RES 7,B  R310
  | res7C  -- 0xCB 0xB9  RES 7,C  R310
  | res7D  -- 0xCB 0xBA  RES 7,D  R310
  | res7E  -- 0xCB 0xBB  RES 7,E  R310
  | res7H  -- 0xCB 0xBC  RES 7,H  R310
  | res7L  -- 0xCB 0xBD  RES 7,L  R310
  | res7IndHl  -- 0xCB 0xBE  RES 7,(HL)  R310
  | res7A  -- 0xCB 0xBF  RES 7,A  R310
  | set0B  -- 0xCB 0xC0  SET 0,B  R311
  | set0C  -- 0xCB 0xC1  SET 0,C  R311
  | set0D  -- 0xCB 0xC2  SET 0,D  R311
  | set0E  -- 0xCB 0xC3  SET 0,E  R311
  | set0H  -- 0xCB 0xC4  SET 0,H  R311
  | set0L  -- 0xCB 0xC5  SET 0,L  R311
  | set0IndHl  -- 0xCB 0xC6  SET 0,(HL)  R311
  | set0A  -- 0xCB 0xC7  SET 0,A  R311
  | set1B  -- 0xCB 0xC8  SET 1,B  R311
  | set1C  -- 0xCB 0xC9  SET 1,C  R311
  | set1D  -- 0xCB 0xCA  SET 1,D  R311
  | set1E  -- 0xCB 0xCB  SET 1,E  R311
  | set1H  -- 0xCB 0xCC  SET 1,H  R311
  | set1L  -- 0xCB 0xCD  SET 1,L  R311
  | set1IndHl  -- 0xCB 0xCE  SET 1,(HL)  R311
  | set1A  -- 0xCB 0xCF  SET 1,A  R311
  | set2B  -- 0xCB 0xD0  SET 2,B  R311
  | set2C  -- 0xCB 0xD1  SET 2,C  R311
  | set2D  -- 0xCB 0xD2  SET 2,D  R311
  | set2E  -- 0xCB 0xD3  SET 2,E  R311
  | set2H  -- 0xCB 0xD4  SET 2,H  R311
  | set2L  -- 0xCB 0xD5  SET 2,L  R311
  | set2IndHl  -- 0xCB 0xD6  SET 2,(HL)  R311
  | set2A  -- 0xCB 0xD7  SET 2,A  R311
  | set3B  -- 0xCB 0xD8  SET 3,B  R311
  | set3C  -- 0xCB 0xD9  SET 3,C  R311
  | set3D  -- 0xCB 0xDA  SET 3,D  R311
  | set3E  -- 0xCB 0xDB  SET 3,E  R311
  | set3H  -- 0xCB 0xDC  SET 3,H  R311
  | set3L  -- 0xCB 0xDD  SET 3,L  R311
  | set3IndHl  -- 0xCB 0xDE  SET 3,(HL)  R311
  | set3A  -- 0xCB 0xDF  SET 3,A  R311
  | set4B  -- 0xCB 0xE0  SET 4,B  R311
  | set4C  -- 0xCB 0xE1  SET 4,C  R311
  | set4D  -- 0xCB 0xE2  SET 4,D  R311
  | set4E  -- 0xCB 0xE3  SET 4,E  R311
  | set4H  -- 0xCB 0xE4  SET 4,H  R311
  | set4L  -- 0xCB 0xE5  SET 4,L  R311
  | set4IndHl  -- 0xCB 0xE6  SET 4,(HL)  R311
  | set4A  -- 0xCB 0xE7  SET 4,A  R311
  | set5B  -- 0xCB 0xE8  SET 5,B  R311
  | set5C  -- 0xCB 0xE9  SET 5,C  R311
  | set5D  -- 0xCB 0xEA  SET 5,D  R311
  | set5E  -- 0xCB 0xEB  SET 5,E  R311
  | set5H  -- 0xCB 0xEC  SET 5,H  R311
  | set5L  -- 0xCB 0xED  SET 5,L  R311
  | set5IndHl  -- 0xCB 0xEE  SET 5,(HL)  R311
  | set5A  -- 0xCB 0xEF  SET 5,A  R311
  | set6B  -- 0xCB 0xF0  SET 6,B  R311
  | set6C  -- 0xCB 0xF1  SET 6,C  R311
  | set6D  -- 0xCB 0xF2  SET 6,D  R311
  | set6E  -- 0xCB 0xF3  SET 6,E  R311
  | set6H  -- 0xCB 0xF4  SET 6,H  R311
  | set6L  -- 0xCB 0xF5  SET 6,L  R311
  | set6IndHl  -- 0xCB 0xF6  SET 6,(HL)  R311
  | set6A  -- 0xCB 0xF7  SET 6,A  R311
  | set7B  -- 0xCB 0xF8  SET 7,B  R311
  | set7C  -- 0xCB 0xF9  SET 7,C  R311
  | set7D  -- 0xCB 0xFA  SET 7,D  R311
  | set7E  -- 0xCB 0xFB  SET 7,E  R311
  | set7H  -- 0xCB 0xFC  SET 7,H  R311
  | set7L  -- 0xCB 0xFD  SET 7,L  R311
  | set7IndHl  -- 0xCB 0xFE  SET 7,(HL)  R311
  | set7A  -- 0xCB 0xFF  SET 7,A  R311
deriving DecidableEq, Repr

end Sys2Proof
end

