-- ==== Sys2Proof/WellFormed.lean ====
section
/-! DEFINITION. Well-formed instructions. The operand ranges of R143 to R148 hold by type, so one check is left: the
opcode is one of the 244 + 256 defined ones (30_encoding.md R140, R156), not one of the eleven undefined bytes, which
the opcode table lists as rows of their own. -/

namespace Sys2Proof

/-- The eleven undefined primary opcodes (R156). -/
def Instr.isIllegal : Instr → Bool
  | .illegalD3 => true
  | .illegalDB => true
  | .illegalDD => true
  | .illegalE3 => true
  | .illegalE4 => true
  | .illegalEB => true
  | .illegalEC => true
  | .illegalED => true
  | .illegalF4 => true
  | .illegalFC => true
  | .illegalFD => true
  | _ => false

/-- The instruction has a defined opcode (R140, R156). -/
abbrev WellFormed (i : Instr) : Prop := i.isIllegal = false

end Sys2Proof
end

