-- ==== Sys2Proof/Machine/Flags.lean ====
section
/-! DEFINITION. The flag byte (10_state.md R22) and every computation that writes it, by the flag table of the source
(R31) as the instruction rules state it. Sums and differences are exact numbers; a result is narrowed at the end. -/

namespace Sys2Proof.Machine

/-- F from its four flags: Z bit 7, N bit 6, H bit 5, C bit 4, the low nibble 0 (R22). -/
def mkFlags (z n h c : Bool) : Byte :=
  BitVec.ofBool z ++ BitVec.ofBool n ++ BitVec.ofBool h ++ BitVec.ofBool c ++ 0#4

/-- `F.Z`. -/
def flagZ (f : Byte) : Bool := f.getLsbD 7

/-- `F.N`. -/
def flagN (f : Byte) : Bool := f.getLsbD 6

/-- `F.H`. -/
def flagH (f : Byte) : Bool := f.getLsbD 5

/-- `F.C`. -/
def flagC (f : Byte) : Bool := f.getLsbD 4

/-- `cc[i]` holds for the flags `f` (R270). -/
def Cond.holds (cond : Cond) (f : Byte) : Bool :=
  match cond with
  | .nz => !flagZ f
  | .z => flagZ f
  | .nc => !flagC f
  | .c => flagC f

/-- A byte result with the flags it leaves. -/
structure Flagged where
  value : Byte
  flags : Byte
deriving DecidableEq, Repr

/-- `a + b + c` with the flags of ADD and ADC (R216, R217). -/
def add8 (a b : Byte) (c : Bool) : Flagged :=
  let sum := a.toNat + b.toNat + c.toNat
  let r := BitVec.ofNat 8 sum
  ⟨r, mkFlags (r == 0) false (decide (0xF < lowNibble a + lowNibble b + c.toNat)) (decide (0xFF < sum))⟩

/-- `a - b - c` with the flags of SUB and SBC (R218, R219). -/
def sub8 (a b : Byte) (c : Bool) : Flagged :=
  let r := BitVec.ofInt 8 ((a.toNat : Int) - b.toNat - c.toNat)
  ⟨r, mkFlags (r == 0) true (decide (lowNibble a < lowNibble b + c.toNat)) (decide (a.toNat < b.toNat + c.toNat))⟩

/-- `AND` (R220). -/
def and8 (a b : Byte) : Flagged := ⟨a &&& b, mkFlags (a &&& b == 0) false true false⟩

/-- `XOR` (R221). -/
def xor8 (a b : Byte) : Flagged := ⟨a ^^^ b, mkFlags (a ^^^ b == 0) false false false⟩

/-- `OR` (R222). -/
def or8 (a b : Byte) : Flagged := ⟨a ||| b, mkFlags (a ||| b == 0) false false false⟩

/-- `CP` (R223): the flags of `SUB`, the value of A kept. -/
def cp8 (a b : Byte) : Flagged := ⟨a, (sub8 a b false).flags⟩

/-- The eight accumulator operations (R216 to R223), on A, the right operand and the old F. -/
def alu (op : AluOp) (a b f : Byte) : Flagged :=
  match op with
  | .add => add8 a b false
  | .adc => add8 a b (flagC f)
  | .sub => sub8 a b false
  | .sbc => sub8 a b (flagC f)
  | .and => and8 a b
  | .xor => xor8 a b
  | .or => or8 a b
  | .cp => cp8 a b

/-- `prev + 1` with the flags of INC: C kept (R224). -/
def inc8 (prev f : Byte) : Flagged :=
  let r := prev + 1
  ⟨r, mkFlags (r == 0) false (decide (0xF < lowNibble prev + 1)) (flagC f)⟩

/-- `prev - 1` with the flags of DEC: C kept (R226). -/
def dec8 (prev f : Byte) : Flagged :=
  let r := prev - 1
  ⟨r, mkFlags (r == 0) true (lowNibble prev == 0) (flagC f)⟩

/-- The flags of `ADD HL,rr`: Z kept, the carries out of bit 11 and bit 15 (R247). -/
def addHlFlags (hl rr : Word) (f : Byte) : Byte :=
  mkFlags (flagZ f) false (decide (0xFFF < hl.toNat % 0x1000 + rr.toNat % 0x1000)) (decide (0xFFFF < hl.toNat + rr.toNat))

/-- The flags of `ADD SP,e8` and `LD HL,SP+e8`: an unsigned addition of SP's low byte and the raw byte (R203, R248). -/
def addSpFlags (sp : Word) (e : Byte) : Byte :=
  mkFlags false false (decide (0xF < sp.toNat % 0x10 + e.toNat % 0x10)) (decide (0xFF < sp.toNat % 0x100 + e.toNat))

/-- The value and the bit shifted out of each operation of `rot[]` (R301 to R308); `carry` is the old F.C. -/
def rotateBits (op : RotOp) (v : Byte) (carry : Bool) : Byte × Bool :=
  let in0 (c : Bool) : Byte := (BitVec.ofBool c).setWidth 8
  let in7 (c : Bool) : Byte := (BitVec.ofBool c).setWidth 8 <<< 7
  match op with
  | .rlc => ((v <<< 1) ||| in0 (v.getLsbD 7), v.getLsbD 7)
  | .rrc => ((v >>> 1) ||| in7 (v.getLsbD 0), v.getLsbD 0)
  | .rl => ((v <<< 1) ||| in0 carry, v.getLsbD 7)
  | .rr => ((v >>> 1) ||| in7 carry, v.getLsbD 0)
  | .sla => (v <<< 1, v.getLsbD 7)
  | .sra => ((v >>> 1) ||| (v &&& 0x80), v.getLsbD 0)
  | .swap => ((v <<< 4) ||| (v >>> 4), false)
  | .srl => (v >>> 1, v.getLsbD 0)

/-- A CB rotate, shift or SWAP: Z from the result, N = H = 0, C the bit shifted out (R301 to R308). -/
def rotate (op : RotOp) (v f : Byte) : Flagged :=
  let r := rotateBits op v (flagC f)
  ⟨r.1, mkFlags (r.1 == 0) false false r.2⟩

/-- An accumulator rotate: as the CB operation, but Z = 0 (R255 to R258). -/
def rotateAcc (op : RotOp) (a f : Byte) : Flagged :=
  let r := rotateBits op a (flagC f)
  ⟨r.1, mkFlags false false false r.2⟩

/-- The flags of `BIT n`: C kept (R309). -/
def bitFlags (n : Fin 8) (v f : Byte) : Byte := mkFlags (!v.getLsbD n) false true (flagC f)

/-- `v & ~(1 << n)` (R310). -/
def clearBit (n : Fin 8) (v : Byte) : Byte := v &&& (0xFF ^^^ (1#8 <<< n.val))

/-- `v | (1 << n)` (R311). -/
def setBit (n : Fin 8) (v : Byte) : Byte := v ||| (1#8 <<< n.val)

/-- `DAA` (R259). The two tests of the addition branch both use the original value. -/
def daa (a f : Byte) : Flagged :=
  if flagN f then
    let r := a - ((if flagH f then 0x06#8 else 0) ||| (if flagC f then 0x60#8 else 0))
    ⟨r, mkFlags (r == 0) true false (flagC f)⟩
  else
    let high := flagC f || decide (0x99 < a.toNat)
    let low := flagH f || decide (0x09 < lowNibble a)
    let r := a + ((if low then 0x06#8 else 0) ||| (if high then 0x60#8 else 0))
    ⟨r, mkFlags (r == 0) false false high⟩

/-- `CPL` (R260). -/
def cpl (a f : Byte) : Flagged := ⟨a ^^^ 0xFF, mkFlags (flagZ f) true true (flagC f)⟩

/-- The flags of `SCF` (R261). -/
def scfFlags (f : Byte) : Byte := mkFlags (flagZ f) false false true

/-- The flags of `CCF` (R262). -/
def ccfFlags (f : Byte) : Byte := mkFlags (flagZ f) false false (!flagC f)

end Sys2Proof.Machine
end

