-- ==== Sys2Proof/Machine/Operands.lean ====
section
/-! DEFINITION. Operand access: the registers and pairs (10_state.md R20 to R24) under the names of the operand tables,
and the addresses memory operands are formed from. Every read or write of a register by an instruction goes through
these. -/

namespace Sys2Proof.Machine

/-- The value of a register of `r8[]` (R145). -/
def Cpu.reg (c : Cpu) : Reg8 → Byte
  | .b => c.b
  | .c => c.c
  | .d => c.d
  | .e => c.e
  | .h => c.h
  | .l => c.l
  | .a => c.a

/-- The CPU with `v` in a register of `r8[]`. -/
def Cpu.setReg (c : Cpu) (r : Reg8) (v : Byte) : Cpu :=
  match r with
  | .b => { c with b := v }
  | .c => { c with c := v }
  | .d => { c with d := v }
  | .e => { c with e := v }
  | .h => { c with h := v }
  | .l => { c with l := v }
  | .a => { c with a := v }

/-- The value of an entry of `r16[]` (R21, R146): the first register of a pair is the high byte. -/
def Cpu.pair (c : Cpu) : Pair → Word
  | .bc => joinBytes c.b c.c
  | .de => joinBytes c.d c.e
  | .hl => joinBytes c.h c.l
  | .sp => c.sp

/-- The CPU with `v` in an entry of `r16[]`. -/
def Cpu.setPair (c : Cpu) (p : Pair) (v : Word) : Cpu :=
  match p with
  | .bc => { c with b := hiByte v, c := loByte v }
  | .de => { c with d := hiByte v, e := loByte v }
  | .hl => { c with h := hiByte v, l := loByte v }
  | .sp => { c with sp := v }

/-- The word a push of an entry of `r16stk[]` stores (R204, R205): F masked to its upper nibble. -/
def Cpu.stk (c : Cpu) : StkPair → Word
  | .bc => c.pair .bc
  | .de => c.pair .de
  | .hl => c.pair .hl
  | .af => joinBytes c.a (c.f &&& 0xF0)

/-- The CPU after a pop of `v` into an entry of `r16stk[]` (R206, R207): F masked to its upper nibble. -/
def Cpu.setStk (c : Cpu) (p : StkPair) (v : Word) : Cpu :=
  match p with
  | .bc => c.setPair .bc v
  | .de => c.setPair .de v
  | .hl => c.setPair .hl v
  | .af => { c with a := hiByte v, f := loByte v &&& 0xF0 }

/-- The value of a register. -/
def State.reg (s : State) (r : Reg8) : Byte := s.cpu.reg r

/-- `r <- v`. -/
def State.setReg (s : State) (r : Reg8) (v : Byte) : State := { s with cpu := s.cpu.setReg r v }

/-- The value of a pair or SP. -/
def State.pair (s : State) (p : Pair) : Word := s.cpu.pair p

/-- `rr <- v`. -/
def State.setPair (s : State) (p : Pair) (v : Word) : State := { s with cpu := s.cpu.setPair p v }

/-- `F <- v`. -/
def State.setF (s : State) (v : Byte) : State := { s with cpu := { s.cpu with f := v } }

/-- The address in HL. -/
def State.hl (s : State) : Word := s.cpu.pair .hl

/-- `0xFF00 + n` (R181 to R184): the low byte carries nothing out. -/
def highAddr (n : Byte) : Word := 0xFF00#16 + zext16 n

end Sys2Proof.Machine
end

