-- ==== Sys2Proof/Machine/Ops.lean ====
section
/-! DEFINITION. The operations instructions are made of: PC and the cycle count, the stack (00_scope.md R12), interrupt
dispatch and the return from it (60_exceptions.md R334, R347), and the shape each family of instructions shares. A shape
takes what its members differ in; each instruction has a meaning of its own that calls it. -/

namespace Sys2Proof.Machine

/-! ### PC, cycles, stack -/

/-- PC moved past the `n` bytes of the instruction, before its operation (R24, R144). -/
def State.advance (s : State) (n : Nat) : State := { s with cpu := { s.cpu with pc := s.cpu.pc + BitVec.ofNat 16 n } }

/-- `PC <- target` (R13). -/
def State.jump (s : State) (target : Word) : State := { s with cpu := { s.cpu with pc := target } }

/-- `SP <- v`. -/
def State.setSp (s : State) (v : Word) : State := { s with cpu := { s.cpu with sp := v } }

/-- The next state, with the cycle count the CPU step returns (R13, R64; log 7). -/
def State.retire (s : State) (n : Nat) : Result := .next { s with cycles := n }

/-- `Push16(v)` (R12): SP - 1, the high byte stored there, SP - 1, the low byte stored there. -/
def State.push (s : State) (v : Word) : State :=
  let t := s.setSp (s.cpu.sp - 1)
  let u := busWrite t t.cpu.sp (hiByte v)
  let w := u.setSp (u.cpu.sp - 1)
  busWrite w w.cpu.sp (loByte v)

/-- The word on top of the stack: low byte at SP, high byte at SP + 1 (R12). -/
def State.top (s : State) : Word := joinBytes (busRead s (s.cpu.sp + 1)) (busRead s s.cpu.sp)

/-- SP after a pop. -/
def State.drop (s : State) : State := s.setSp (s.cpu.sp + 2)

/-! ### Interrupts -/

/-- `IE & IF & 0x1F` (R323), read directly. -/
def State.fired (s : State) : Byte := s.ie &&& s.io.ifr &&& 0x1F

/-- The least k with `fired[k] = 1`, if there is one (R334, R345). -/
def lowestIrq (fired : Byte) : Option Irq :=
  [Irq.vblank, .stat, .timer, .serial, .joypad].find? (fun k => fired.getLsbD k.bit)

/-- `Dispatch(fired)`, entered with `k` the least bit of `fired` (R334, R346): taking the interrupt. -/
def dispatchInterrupt (k : Irq) (s : State) : Result :=
  let t := s.setIo .ifr (s.io.ifr &&& ~~~k.mask)
  let u := { t with cpu := { t.cpu with ime := false, imePending := false, halted := false } }
  ((u.push u.cpu.pc).jump k.vector).retire 20

/-- `PC <- Pop16(); ime <- true` (R280, R347): the return from an interrupt handler, PC already past the opcode. -/
def returnFromInterrupt (s : State) : State :=
  let t := s.drop.jump s.top
  { t with cpu := { t.cpu with ime := true } }

/-- The state the fault of an undefined opcode leaves (R295, R340; log 10), from the state `s` before the step: PC past the
byte, `cpu_fault` set, nothing else. Where the step first woke a halted core (R325), `halted` stays true all the same, by
R340's "everything else as before the step"; R321 clears it before the fetch, and the rules do not say which holds: DESIGN
CHOICE, unsafe (log 25). -/
def State.afterFault (s : State) (op : Byte) (pc : Word) : State :=
  { s with cpu := { s.cpu with pc := pc + 1, fault := some ⟨op, pc⟩ } }

/-- An undefined opcode (R295): the fault that records the opcode and the address it was fetched from. -/
def raiseIllegal (op : Byte) (s : State) : Result := .fault (.illegalOpcode op s.cpu.pc)

/-! ### 8-bit loads (R170 to R188) -/

/-- `r <- v` by an instruction of `len` bytes. -/
def loadReg (r : Reg8) (v : Byte) (len cyc : Nat) (s : State) : Result := ((s.advance len).setReg r v).retire cyc

/-- `r <- MemRead(addr, 1)`. -/
def loadFrom (r : Reg8) (addr : Word) (len cyc : Nat) (s : State) : Result := loadReg r (busRead s addr) len cyc s

/-- `MemWrite(addr, 1, v)`. -/
def storeTo (addr : Word) (v : Byte) (len cyc : Nat) (s : State) : Result := (busWrite (s.advance len) addr v).retire cyc

/-- `MemWrite(HL, 1, A); HL <- HL + step` (R185, R187). -/
def storeStep (step : Word) (s : State) : Result :=
  let t := busWrite (s.advance 1) s.hl (s.reg .a)
  (t.setPair .hl (t.hl + step)).retire 8

/-- `A <- MemRead(HL, 1); HL <- HL + step` (R186, R188). -/
def loadStep (step : Word) (s : State) : Result :=
  (((s.advance 1).setReg .a (busRead s s.hl)).setPair .hl (s.hl + step)).retire 8

/-! ### 16-bit loads and stack (R200 to R207) -/

/-- `rr <- v`. -/
def loadPair (p : Pair) (v : Word) (len cyc : Nat) (s : State) : Result := ((s.advance len).setPair p v).retire cyc

/-- `MemWrite(addr, 2, SP)` (R10, R201): the low byte, then the high byte at the next address. -/
def storeSp (addr : Word) (s : State) : Result :=
  (busWrite (busWrite (s.advance 3) addr (loByte s.cpu.sp)) (addr + 1) (hiByte s.cpu.sp)).retire 20

/-- `HL <- SP + sext(e)` with flags (R203). -/
def loadHlSp (e : Byte) (s : State) : Result :=
  (((s.advance 2).setPair .hl (s.cpu.sp + sext16 e)).setF (addSpFlags s.cpu.sp e)).retire 12

/-- `PUSH` (R204, R205). -/
def pushStk (p : StkPair) (s : State) : Result := ((s.advance 1).push (s.cpu.stk p)).retire 16

/-- `POP` (R206, R207). -/
def popStk (p : StkPair) (s : State) : Result :=
  let t := (s.advance 1).drop
  State.retire { t with cpu := t.cpu.setStk p s.top } 12

/-! ### Arithmetic (R215 to R227, R245 to R248, R255 to R262) -/

/-- `op A,b` for a right operand `b` already read (R215). -/
def aluWith (op : AluOp) (b : Byte) (len cyc : Nat) (s : State) : Result :=
  let r := alu op (s.reg .a) b s.cpu.f
  (((s.advance len).setReg .a r.value).setF r.flags).retire cyc

/-- `op A,r`. -/
def aluReg (op : AluOp) (r : Reg8) (s : State) : Result := aluWith op (s.reg r) 1 4 s

/-- `op A,(HL)`. -/
def aluIndHl (op : AluOp) (s : State) : Result := aluWith op (busRead s s.hl) 1 8 s

/-- `op A,n8`. -/
def aluImm (op : AluOp) (n : Byte) (s : State) : Result := aluWith op n 2 8 s

/-- A register rewritten with the flags of `r`. -/
def updateReg (dst : Reg8) (r : Flagged) (len cyc : Nat) (s : State) : Result :=
  (((s.advance len).setReg dst r.value).setF r.flags).retire cyc

/-- The byte at HL rewritten with the flags of `r`: the write runs its region's effect (R225, R300). -/
def updateIndHl (r : Flagged) (len cyc : Nat) (s : State) : Result :=
  (busWrite ((s.advance len).setF r.flags) s.hl r.value).retire cyc

/-- `INC r` (R224). -/
def incReg (r : Reg8) (s : State) : Result := updateReg r (inc8 (s.reg r) s.cpu.f) 1 4 s

/-- `DEC r` (R226). -/
def decReg (r : Reg8) (s : State) : Result := updateReg r (dec8 (s.reg r) s.cpu.f) 1 4 s

/-- `INC rr`, `DEC rr` (R245, R246): `rr + step`, no flags. -/
def stepPair (p : Pair) (step : Word) (s : State) : Result := ((s.advance 1).setPair p (s.pair p + step)).retire 8

/-- `ADD HL,rr` (R247). -/
def addHl (p : Pair) (s : State) : Result :=
  (((s.advance 1).setPair .hl (s.hl + s.pair p)).setF (addHlFlags s.hl (s.pair p) s.cpu.f)).retire 8

/-- `ADD SP,e8` (R248). -/
def addSp (e : Byte) (s : State) : Result :=
  (((s.advance 2).setSp (s.cpu.sp + sext16 e)).setF (addSpFlags s.cpu.sp e)).retire 16

/-- `RLCA`, `RRCA`, `RLA`, `RRA` (R255 to R258). -/
def rotateA (op : RotOp) (s : State) : Result := updateReg .a (rotateAcc op (s.reg .a) s.cpu.f) 1 4 s

/-- An instruction that writes F alone. -/
def flagsOnly (f : Byte) (s : State) : Result := ((s.advance 1).setF f).retire 4

/-! ### Control flow (R271 to R281) -/

/-- `JP` (R271, R272): taken when `taken`. -/
def jumpAbs (taken : Bool) (target : Word) (s : State) : Result :=
  if taken then ((s.advance 3).jump target).retire 16 else (s.advance 3).retire 12

/-- `JR` (R274, R275): relative to the address after the displacement byte. -/
def jumpRel (taken : Bool) (e : Byte) (s : State) : Result :=
  let t := s.advance 2
  if taken then (t.jump (t.cpu.pc + sext16 e)).retire 12 else t.retire 8

/-- `CALL` (R276, R277): the pushed word is the address after the instruction. -/
def callAbs (taken : Bool) (target : Word) (s : State) : Result :=
  let t := s.advance 3
  if taken then ((t.push t.cpu.pc).jump target).retire 24 else t.retire 12

/-- `PC <- Pop16()`, PC already past the opcode (R278, R279). -/
def State.ret (s : State) : State := s.drop.jump s.top

/-- `RET cc` (R279). -/
def retCond (taken : Bool) (s : State) : Result :=
  let t := s.advance 1
  if taken then t.ret.retire 20 else t.retire 8

/-- `RST` (R281). -/
def restart (target : Word) (s : State) : Result :=
  let t := s.advance 1
  ((t.push t.cpu.pc).jump target).retire 16

/-! ### CB-prefixed (R300 to R311) -/

/-- A rotate, shift or SWAP on a register. -/
def rotReg (op : RotOp) (r : Reg8) (s : State) : Result := updateReg r (rotate op (s.reg r) s.cpu.f) 2 8 s

/-- A rotate, shift or SWAP on the byte at HL. -/
def rotIndHl (op : RotOp) (s : State) : Result := updateIndHl (rotate op (busRead s s.hl) s.cpu.f) 2 16 s

/-- `BIT n` on a value already read (R309). -/
def testBit (n : Fin 8) (v : Byte) (cyc : Nat) (s : State) : Result :=
  ((s.advance 2).setF (bitFlags n v s.cpu.f)).retire cyc

/-- `RES n,r`, `SET n,r` (R310, R311): `f` of the register, no flags. -/
def modifyReg (f : Byte → Byte) (r : Reg8) (s : State) : Result := loadReg r (f (s.reg r)) 2 8 s

/-- `RES n,(HL)`, `SET n,(HL)`: the byte at HL read, then written (R300). -/
def modifyIndHl (f : Byte → Byte) (s : State) : Result := storeTo s.hl (f (busRead s s.hl)) 2 16 s

end Sys2Proof.Machine
end

