-- ==== Sys2Proof/Machine/Alu16.lean ====
section
/-! DEFINITION. The meanings of 16-bit arithmetic (43_alu16.md),
one per row of the opcode table. PC is at the opcode when a meaning starts. -/

namespace Sys2Proof.Machine

/-- `INC BC` (R245). -/
def execIncBc (s : State) : Result := stepPair .bc 1 s

/-- `ADD HL,BC` (R247). -/
def execAddHlBc (s : State) : Result := addHl .bc s

/-- `DEC BC` (R246). -/
def execDecBc (s : State) : Result := stepPair .bc (-1) s

/-- `INC DE` (R245). -/
def execIncDe (s : State) : Result := stepPair .de 1 s

/-- `ADD HL,DE` (R247). -/
def execAddHlDe (s : State) : Result := addHl .de s

/-- `DEC DE` (R246). -/
def execDecDe (s : State) : Result := stepPair .de (-1) s

/-- `INC HL` (R245). -/
def execIncHl (s : State) : Result := stepPair .hl 1 s

/-- `ADD HL,HL` (R247). -/
def execAddHlHl (s : State) : Result := addHl .hl s

/-- `DEC HL` (R246). -/
def execDecHl (s : State) : Result := stepPair .hl (-1) s

/-- `INC SP` (R245). -/
def execIncSp (s : State) : Result := stepPair .sp 1 s

/-- `ADD HL,SP` (R247). -/
def execAddHlSp (s : State) : Result := addHl .sp s

/-- `DEC SP` (R246). -/
def execDecSp (s : State) : Result := stepPair .sp (-1) s

/-- `ADD SP,e8` (R248). -/
def execAddSpE8 (n : Byte) (s : State) : Result := addSp n s

end Sys2Proof.Machine
end

