-- ==== Sys2Proof/Machine/Alu8.lean ====
section
/-! DEFINITION. The meanings of 8-bit arithmetic and logic (42_alu8.md),
one per row of the opcode table. PC is at the opcode when a meaning starts. -/

namespace Sys2Proof.Machine

/-- `INC B` (R224). -/
def execIncB (s : State) : Result := incReg .b s

/-- `DEC B` (R226). -/
def execDecB (s : State) : Result := decReg .b s

/-- `INC C` (R224). -/
def execIncC (s : State) : Result := incReg .c s

/-- `DEC C` (R226). -/
def execDecC (s : State) : Result := decReg .c s

/-- `INC D` (R224). -/
def execIncD (s : State) : Result := incReg .d s

/-- `DEC D` (R226). -/
def execDecD (s : State) : Result := decReg .d s

/-- `INC E` (R224). -/
def execIncE (s : State) : Result := incReg .e s

/-- `DEC E` (R226). -/
def execDecE (s : State) : Result := decReg .e s

/-- `INC H` (R224). -/
def execIncH (s : State) : Result := incReg .h s

/-- `DEC H` (R226). -/
def execDecH (s : State) : Result := decReg .h s

/-- `INC L` (R224). -/
def execIncL (s : State) : Result := incReg .l s

/-- `DEC L` (R226). -/
def execDecL (s : State) : Result := decReg .l s

/-- `INC (HL)` (R225). -/
def execIncIndHl (s : State) : Result := updateIndHl (inc8 (busRead s s.hl) s.cpu.f) 1 12 s

/-- `DEC (HL)` (R227). -/
def execDecIndHl (s : State) : Result := updateIndHl (dec8 (busRead s s.hl) s.cpu.f) 1 12 s

/-- `INC A` (R224). -/
def execIncA (s : State) : Result := incReg .a s

/-- `DEC A` (R226). -/
def execDecA (s : State) : Result := decReg .a s

/-- `ADD A,B` (R216). -/
def execAddAB (s : State) : Result := aluReg .add .b s

/-- `ADD A,C` (R216). -/
def execAddAC (s : State) : Result := aluReg .add .c s

/-- `ADD A,D` (R216). -/
def execAddAD (s : State) : Result := aluReg .add .d s

/-- `ADD A,E` (R216). -/
def execAddAE (s : State) : Result := aluReg .add .e s

/-- `ADD A,H` (R216). -/
def execAddAH (s : State) : Result := aluReg .add .h s

/-- `ADD A,L` (R216). -/
def execAddAL (s : State) : Result := aluReg .add .l s

/-- `ADD A,(HL)` (R216). -/
def execAddAIndHl (s : State) : Result := aluIndHl .add s

/-- `ADD A,A` (R216). -/
def execAddAA (s : State) : Result := aluReg .add .a s

/-- `ADC A,B` (R217). -/
def execAdcAB (s : State) : Result := aluReg .adc .b s

/-- `ADC A,C` (R217). -/
def execAdcAC (s : State) : Result := aluReg .adc .c s

/-- `ADC A,D` (R217). -/
def execAdcAD (s : State) : Result := aluReg .adc .d s

/-- `ADC A,E` (R217). -/
def execAdcAE (s : State) : Result := aluReg .adc .e s

/-- `ADC A,H` (R217). -/
def execAdcAH (s : State) : Result := aluReg .adc .h s

/-- `ADC A,L` (R217). -/
def execAdcAL (s : State) : Result := aluReg .adc .l s

/-- `ADC A,(HL)` (R217). -/
def execAdcAIndHl (s : State) : Result := aluIndHl .adc s

/-- `ADC A,A` (R217). -/
def execAdcAA (s : State) : Result := aluReg .adc .a s

/-- `SUB A,B` (R218). -/
def execSubAB (s : State) : Result := aluReg .sub .b s

/-- `SUB A,C` (R218). -/
def execSubAC (s : State) : Result := aluReg .sub .c s

/-- `SUB A,D` (R218). -/
def execSubAD (s : State) : Result := aluReg .sub .d s

/-- `SUB A,E` (R218). -/
def execSubAE (s : State) : Result := aluReg .sub .e s

/-- `SUB A,H` (R218). -/
def execSubAH (s : State) : Result := aluReg .sub .h s

/-- `SUB A,L` (R218). -/
def execSubAL (s : State) : Result := aluReg .sub .l s

/-- `SUB A,(HL)` (R218). -/
def execSubAIndHl (s : State) : Result := aluIndHl .sub s

/-- `SUB A,A` (R218). -/
def execSubAA (s : State) : Result := aluReg .sub .a s

/-- `SBC A,B` (R219). -/
def execSbcAB (s : State) : Result := aluReg .sbc .b s

/-- `SBC A,C` (R219). -/
def execSbcAC (s : State) : Result := aluReg .sbc .c s

/-- `SBC A,D` (R219). -/
def execSbcAD (s : State) : Result := aluReg .sbc .d s

/-- `SBC A,E` (R219). -/
def execSbcAE (s : State) : Result := aluReg .sbc .e s

/-- `SBC A,H` (R219). -/
def execSbcAH (s : State) : Result := aluReg .sbc .h s

/-- `SBC A,L` (R219). -/
def execSbcAL (s : State) : Result := aluReg .sbc .l s

/-- `SBC A,(HL)` (R219). -/
def execSbcAIndHl (s : State) : Result := aluIndHl .sbc s

/-- `SBC A,A` (R219). -/
def execSbcAA (s : State) : Result := aluReg .sbc .a s

/-- `AND A,B` (R220). -/
def execAndAB (s : State) : Result := aluReg .and .b s

/-- `AND A,C` (R220). -/
def execAndAC (s : State) : Result := aluReg .and .c s

/-- `AND A,D` (R220). -/
def execAndAD (s : State) : Result := aluReg .and .d s

/-- `AND A,E` (R220). -/
def execAndAE (s : State) : Result := aluReg .and .e s

/-- `AND A,H` (R220). -/
def execAndAH (s : State) : Result := aluReg .and .h s

/-- `AND A,L` (R220). -/
def execAndAL (s : State) : Result := aluReg .and .l s

/-- `AND A,(HL)` (R220). -/
def execAndAIndHl (s : State) : Result := aluIndHl .and s

/-- `AND A,A` (R220). -/
def execAndAA (s : State) : Result := aluReg .and .a s

/-- `XOR A,B` (R221). -/
def execXorAB (s : State) : Result := aluReg .xor .b s

/-- `XOR A,C` (R221). -/
def execXorAC (s : State) : Result := aluReg .xor .c s

/-- `XOR A,D` (R221). -/
def execXorAD (s : State) : Result := aluReg .xor .d s

/-- `XOR A,E` (R221). -/
def execXorAE (s : State) : Result := aluReg .xor .e s

/-- `XOR A,H` (R221). -/
def execXorAH (s : State) : Result := aluReg .xor .h s

/-- `XOR A,L` (R221). -/
def execXorAL (s : State) : Result := aluReg .xor .l s

/-- `XOR A,(HL)` (R221). -/
def execXorAIndHl (s : State) : Result := aluIndHl .xor s

/-- `XOR A,A` (R221). -/
def execXorAA (s : State) : Result := aluReg .xor .a s

/-- `OR A,B` (R222). -/
def execOrAB (s : State) : Result := aluReg .or .b s

/-- `OR A,C` (R222). -/
def execOrAC (s : State) : Result := aluReg .or .c s

/-- `OR A,D` (R222). -/
def execOrAD (s : State) : Result := aluReg .or .d s

/-- `OR A,E` (R222). -/
def execOrAE (s : State) : Result := aluReg .or .e s

/-- `OR A,H` (R222). -/
def execOrAH (s : State) : Result := aluReg .or .h s

/-- `OR A,L` (R222). -/
def execOrAL (s : State) : Result := aluReg .or .l s

/-- `OR A,(HL)` (R222). -/
def execOrAIndHl (s : State) : Result := aluIndHl .or s

/-- `OR A,A` (R222). -/
def execOrAA (s : State) : Result := aluReg .or .a s

/-- `CP A,B` (R223). -/
def execCpAB (s : State) : Result := aluReg .cp .b s

/-- `CP A,C` (R223). -/
def execCpAC (s : State) : Result := aluReg .cp .c s

/-- `CP A,D` (R223). -/
def execCpAD (s : State) : Result := aluReg .cp .d s

/-- `CP A,E` (R223). -/
def execCpAE (s : State) : Result := aluReg .cp .e s

/-- `CP A,H` (R223). -/
def execCpAH (s : State) : Result := aluReg .cp .h s

/-- `CP A,L` (R223). -/
def execCpAL (s : State) : Result := aluReg .cp .l s

/-- `CP A,(HL)` (R223). -/
def execCpAIndHl (s : State) : Result := aluIndHl .cp s

/-- `CP A,A` (R223). -/
def execCpAA (s : State) : Result := aluReg .cp .a s

/-- `ADD A,n8` (R216). -/
def execAddAN8 (n : Byte) (s : State) : Result := aluImm .add n s

/-- `ADC A,n8` (R217). -/
def execAdcAN8 (n : Byte) (s : State) : Result := aluImm .adc n s

/-- `SUB A,n8` (R218). -/
def execSubAN8 (n : Byte) (s : State) : Result := aluImm .sub n s

/-- `SBC A,n8` (R219). -/
def execSbcAN8 (n : Byte) (s : State) : Result := aluImm .sbc n s

/-- `AND A,n8` (R220). -/
def execAndAN8 (n : Byte) (s : State) : Result := aluImm .and n s

/-- `XOR A,n8` (R221). -/
def execXorAN8 (n : Byte) (s : State) : Result := aluImm .xor n s

/-- `OR A,n8` (R222). -/
def execOrAN8 (n : Byte) (s : State) : Result := aluImm .or n s

/-- `CP A,n8` (R223). -/
def execCpAN8 (n : Byte) (s : State) : Result := aluImm .cp n s

end Sys2Proof.Machine
end

