-- ==== Sys2Proof/Machine/Cb.lean ====
section
/-! DEFINITION. The meanings of the CB-prefixed instructions (47_cb_prefixed.md),
one per row of the opcode table. PC is at the opcode when a meaning starts. -/

namespace Sys2Proof.Machine

/-- `RLC B` (R301). -/
def execRlcB (s : State) : Result := rotReg .rlc .b s

/-- `RLC C` (R301). -/
def execRlcC (s : State) : Result := rotReg .rlc .c s

/-- `RLC D` (R301). -/
def execRlcD (s : State) : Result := rotReg .rlc .d s

/-- `RLC E` (R301). -/
def execRlcE (s : State) : Result := rotReg .rlc .e s

/-- `RLC H` (R301). -/
def execRlcH (s : State) : Result := rotReg .rlc .h s

/-- `RLC L` (R301). -/
def execRlcL (s : State) : Result := rotReg .rlc .l s

/-- `RLC (HL)` (R301). -/
def execRlcIndHl (s : State) : Result := rotIndHl .rlc s

/-- `RLC A` (R301). -/
def execRlcA (s : State) : Result := rotReg .rlc .a s

/-- `RRC B` (R302). -/
def execRrcB (s : State) : Result := rotReg .rrc .b s

/-- `RRC C` (R302). -/
def execRrcC (s : State) : Result := rotReg .rrc .c s

/-- `RRC D` (R302). -/
def execRrcD (s : State) : Result := rotReg .rrc .d s

/-- `RRC E` (R302). -/
def execRrcE (s : State) : Result := rotReg .rrc .e s

/-- `RRC H` (R302). -/
def execRrcH (s : State) : Result := rotReg .rrc .h s

/-- `RRC L` (R302). -/
def execRrcL (s : State) : Result := rotReg .rrc .l s

/-- `RRC (HL)` (R302). -/
def execRrcIndHl (s : State) : Result := rotIndHl .rrc s

/-- `RRC A` (R302). -/
def execRrcA (s : State) : Result := rotReg .rrc .a s

/-- `RL B` (R303). -/
def execRlB (s : State) : Result := rotReg .rl .b s

/-- `RL C` (R303). -/
def execRlC (s : State) : Result := rotReg .rl .c s

/-- `RL D` (R303). -/
def execRlD (s : State) : Result := rotReg .rl .d s

/-- `RL E` (R303). -/
def execRlE (s : State) : Result := rotReg .rl .e s

/-- `RL H` (R303). -/
def execRlH (s : State) : Result := rotReg .rl .h s

/-- `RL L` (R303). -/
def execRlL (s : State) : Result := rotReg .rl .l s

/-- `RL (HL)` (R303). -/
def execRlIndHl (s : State) : Result := rotIndHl .rl s

/-- `RL A` (R303). -/
def execRlA (s : State) : Result := rotReg .rl .a s

/-- `RR B` (R304). -/
def execRrB (s : State) : Result := rotReg .rr .b s

/-- `RR C` (R304). -/
def execRrC (s : State) : Result := rotReg .rr .c s

/-- `RR D` (R304). -/
def execRrD (s : State) : Result := rotReg .rr .d s

/-- `RR E` (R304). -/
def execRrE (s : State) : Result := rotReg .rr .e s

/-- `RR H` (R304). -/
def execRrH (s : State) : Result := rotReg .rr .h s

/-- `RR L` (R304). -/
def execRrL (s : State) : Result := rotReg .rr .l s

/-- `RR (HL)` (R304). -/
def execRrIndHl (s : State) : Result := rotIndHl .rr s

/-- `RR A` (R304). -/
def execRrA (s : State) : Result := rotReg .rr .a s

/-- `SLA B` (R305). -/
def execSlaB (s : State) : Result := rotReg .sla .b s

/-- `SLA C` (R305). -/
def execSlaC (s : State) : Result := rotReg .sla .c s

/-- `SLA D` (R305). -/
def execSlaD (s : State) : Result := rotReg .sla .d s

/-- `SLA E` (R305). -/
def execSlaE (s : State) : Result := rotReg .sla .e s

/-- `SLA H` (R305). -/
def execSlaH (s : State) : Result := rotReg .sla .h s

/-- `SLA L` (R305). -/
def execSlaL (s : State) : Result := rotReg .sla .l s

/-- `SLA (HL)` (R305). -/
def execSlaIndHl (s : State) : Result := rotIndHl .sla s

/-- `SLA A` (R305). -/
def execSlaA (s : State) : Result := rotReg .sla .a s

/-- `SRA B` (R306). -/
def execSraB (s : State) : Result := rotReg .sra .b s

/-- `SRA C` (R306). -/
def execSraC (s : State) : Result := rotReg .sra .c s

/-- `SRA D` (R306). -/
def execSraD (s : State) : Result := rotReg .sra .d s

/-- `SRA E` (R306). -/
def execSraE (s : State) : Result := rotReg .sra .e s

/-- `SRA H` (R306). -/
def execSraH (s : State) : Result := rotReg .sra .h s

/-- `SRA L` (R306). -/
def execSraL (s : State) : Result := rotReg .sra .l s

/-- `SRA (HL)` (R306). -/
def execSraIndHl (s : State) : Result := rotIndHl .sra s

/-- `SRA A` (R306). -/
def execSraA (s : State) : Result := rotReg .sra .a s

/-- `SWAP B` (R307). -/
def execSwapB (s : State) : Result := rotReg .swap .b s

/-- `SWAP C` (R307). -/
def execSwapC (s : State) : Result := rotReg .swap .c s

/-- `SWAP D` (R307). -/
def execSwapD (s : State) : Result := rotReg .swap .d s

/-- `SWAP E` (R307). -/
def execSwapE (s : State) : Result := rotReg .swap .e s

/-- `SWAP H` (R307). -/
def execSwapH (s : State) : Result := rotReg .swap .h s

/-- `SWAP L` (R307). -/
def execSwapL (s : State) : Result := rotReg .swap .l s

/-- `SWAP (HL)` (R307). -/
def execSwapIndHl (s : State) : Result := rotIndHl .swap s

/-- `SWAP A` (R307). -/
def execSwapA (s : State) : Result := rotReg .swap .a s

/-- `SRL B` (R308). -/
def execSrlB (s : State) : Result := rotReg .srl .b s

/-- `SRL C` (R308). -/
def execSrlC (s : State) : Result := rotReg .srl .c s

/-- `SRL D` (R308). -/
def execSrlD (s : State) : Result := rotReg .srl .d s

/-- `SRL E` (R308). -/
def execSrlE (s : State) : Result := rotReg .srl .e s

/-- `SRL H` (R308). -/
def execSrlH (s : State) : Result := rotReg .srl .h s

/-- `SRL L` (R308). -/
def execSrlL (s : State) : Result := rotReg .srl .l s

/-- `SRL (HL)` (R308). -/
def execSrlIndHl (s : State) : Result := rotIndHl .srl s

/-- `SRL A` (R308). -/
def execSrlA (s : State) : Result := rotReg .srl .a s

/-- `BIT 0,B` (R309). -/
def execBit0B (s : State) : Result := testBit 0 (s.reg .b) 8 s

/-- `BIT 0,C` (R309). -/
def execBit0C (s : State) : Result := testBit 0 (s.reg .c) 8 s

/-- `BIT 0,D` (R309). -/
def execBit0D (s : State) : Result := testBit 0 (s.reg .d) 8 s

/-- `BIT 0,E` (R309). -/
def execBit0E (s : State) : Result := testBit 0 (s.reg .e) 8 s

/-- `BIT 0,H` (R309). -/
def execBit0H (s : State) : Result := testBit 0 (s.reg .h) 8 s

/-- `BIT 0,L` (R309). -/
def execBit0L (s : State) : Result := testBit 0 (s.reg .l) 8 s

/-- `BIT 0,(HL)` (R309). -/
def execBit0IndHl (s : State) : Result := testBit 0 (busRead s s.hl) 12 s

/-- `BIT 0,A` (R309). -/
def execBit0A (s : State) : Result := testBit 0 (s.reg .a) 8 s

/-- `BIT 1,B` (R309). -/
def execBit1B (s : State) : Result := testBit 1 (s.reg .b) 8 s

/-- `BIT 1,C` (R309). -/
def execBit1C (s : State) : Result := testBit 1 (s.reg .c) 8 s

/-- `BIT 1,D` (R309). -/
def execBit1D (s : State) : Result := testBit 1 (s.reg .d) 8 s

/-- `BIT 1,E` (R309). -/
def execBit1E (s : State) : Result := testBit 1 (s.reg .e) 8 s

/-- `BIT 1,H` (R309). -/
def execBit1H (s : State) : Result := testBit 1 (s.reg .h) 8 s

/-- `BIT 1,L` (R309). -/
def execBit1L (s : State) : Result := testBit 1 (s.reg .l) 8 s

/-- `BIT 1,(HL)` (R309). -/
def execBit1IndHl (s : State) : Result := testBit 1 (busRead s s.hl) 12 s

/-- `BIT 1,A` (R309). -/
def execBit1A (s : State) : Result := testBit 1 (s.reg .a) 8 s

/-- `BIT 2,B` (R309). -/
def execBit2B (s : State) : Result := testBit 2 (s.reg .b) 8 s

/-- `BIT 2,C` (R309). -/
def execBit2C (s : State) : Result := testBit 2 (s.reg .c) 8 s

/-- `BIT 2,D` (R309). -/
def execBit2D (s : State) : Result := testBit 2 (s.reg .d) 8 s

/-- `BIT 2,E` (R309). -/
def execBit2E (s : State) : Result := testBit 2 (s.reg .e) 8 s

/-- `BIT 2,H` (R309). -/
def execBit2H (s : State) : Result := testBit 2 (s.reg .h) 8 s

/-- `BIT 2,L` (R309). -/
def execBit2L (s : State) : Result := testBit 2 (s.reg .l) 8 s

/-- `BIT 2,(HL)` (R309). -/
def execBit2IndHl (s : State) : Result := testBit 2 (busRead s s.hl) 12 s

/-- `BIT 2,A` (R309). -/
def execBit2A (s : State) : Result := testBit 2 (s.reg .a) 8 s

/-- `BIT 3,B` (R309). -/
def execBit3B (s : State) : Result := testBit 3 (s.reg .b) 8 s

/-- `BIT 3,C` (R309). -/
def execBit3C (s : State) : Result := testBit 3 (s.reg .c) 8 s

/-- `BIT 3,D` (R309). -/
def execBit3D (s : State) : Result := testBit 3 (s.reg .d) 8 s

/-- `BIT 3,E` (R309). -/
def execBit3E (s : State) : Result := testBit 3 (s.reg .e) 8 s

/-- `BIT 3,H` (R309). -/
def execBit3H (s : State) : Result := testBit 3 (s.reg .h) 8 s

/-- `BIT 3,L` (R309). -/
def execBit3L (s : State) : Result := testBit 3 (s.reg .l) 8 s

/-- `BIT 3,(HL)` (R309). -/
def execBit3IndHl (s : State) : Result := testBit 3 (busRead s s.hl) 12 s

/-- `BIT 3,A` (R309). -/
def execBit3A (s : State) : Result := testBit 3 (s.reg .a) 8 s

/-- `BIT 4,B` (R309). -/
def execBit4B (s : State) : Result := testBit 4 (s.reg .b) 8 s

/-- `BIT 4,C` (R309). -/
def execBit4C (s : State) : Result := testBit 4 (s.reg .c) 8 s

/-- `BIT 4,D` (R309). -/
def execBit4D (s : State) : Result := testBit 4 (s.reg .d) 8 s

/-- `BIT 4,E` (R309). -/
def execBit4E (s : State) : Result := testBit 4 (s.reg .e) 8 s

/-- `BIT 4,H` (R309). -/
def execBit4H (s : State) : Result := testBit 4 (s.reg .h) 8 s

/-- `BIT 4,L` (R309). -/
def execBit4L (s : State) : Result := testBit 4 (s.reg .l) 8 s

/-- `BIT 4,(HL)` (R309). -/
def execBit4IndHl (s : State) : Result := testBit 4 (busRead s s.hl) 12 s

/-- `BIT 4,A` (R309). -/
def execBit4A (s : State) : Result := testBit 4 (s.reg .a) 8 s

/-- `BIT 5,B` (R309). -/
def execBit5B (s : State) : Result := testBit 5 (s.reg .b) 8 s

/-- `BIT 5,C` (R309). -/
def execBit5C (s : State) : Result := testBit 5 (s.reg .c) 8 s

/-- `BIT 5,D` (R309). -/
def execBit5D (s : State) : Result := testBit 5 (s.reg .d) 8 s

/-- `BIT 5,E` (R309). -/
def execBit5E (s : State) : Result := testBit 5 (s.reg .e) 8 s

/-- `BIT 5,H` (R309). -/
def execBit5H (s : State) : Result := testBit 5 (s.reg .h) 8 s

/-- `BIT 5,L` (R309). -/
def execBit5L (s : State) : Result := testBit 5 (s.reg .l) 8 s

/-- `BIT 5,(HL)` (R309). -/
def execBit5IndHl (s : State) : Result := testBit 5 (busRead s s.hl) 12 s

/-- `BIT 5,A` (R309). -/
def execBit5A (s : State) : Result := testBit 5 (s.reg .a) 8 s

/-- `BIT 6,B` (R309). -/
def execBit6B (s : State) : Result := testBit 6 (s.reg .b) 8 s

/-- `BIT 6,C` (R309). -/
def execBit6C (s : State) : Result := testBit 6 (s.reg .c) 8 s

/-- `BIT 6,D` (R309). -/
def execBit6D (s : State) : Result := testBit 6 (s.reg .d) 8 s

/-- `BIT 6,E` (R309). -/
def execBit6E (s : State) : Result := testBit 6 (s.reg .e) 8 s

/-- `BIT 6,H` (R309). -/
def execBit6H (s : State) : Result := testBit 6 (s.reg .h) 8 s

/-- `BIT 6,L` (R309). -/
def execBit6L (s : State) : Result := testBit 6 (s.reg .l) 8 s

/-- `BIT 6,(HL)` (R309). -/
def execBit6IndHl (s : State) : Result := testBit 6 (busRead s s.hl) 12 s

/-- `BIT 6,A` (R309). -/
def execBit6A (s : State) : Result := testBit 6 (s.reg .a) 8 s

/-- `BIT 7,B` (R309). -/
def execBit7B (s : State) : Result := testBit 7 (s.reg .b) 8 s

/-- `BIT 7,C` (R309). -/
def execBit7C (s : State) : Result := testBit 7 (s.reg .c) 8 s

/-- `BIT 7,D` (R309). -/
def execBit7D (s : State) : Result := testBit 7 (s.reg .d) 8 s

/-- `BIT 7,E` (R309). -/
def execBit7E (s : State) : Result := testBit 7 (s.reg .e) 8 s

/-- `BIT 7,H` (R309). -/
def execBit7H (s : State) : Result := testBit 7 (s.reg .h) 8 s

/-- `BIT 7,L` (R309). -/
def execBit7L (s : State) : Result := testBit 7 (s.reg .l) 8 s

/-- `BIT 7,(HL)` (R309). -/
def execBit7IndHl (s : State) : Result := testBit 7 (busRead s s.hl) 12 s

/-- `BIT 7,A` (R309). -/
def execBit7A (s : State) : Result := testBit 7 (s.reg .a) 8 s

/-- `RES 0,B` (R310). -/
def execRes0B (s : State) : Result := modifyReg (clearBit 0) .b s

/-- `RES 0,C` (R310). -/
def execRes0C (s : State) : Result := modifyReg (clearBit 0) .c s

/-- `RES 0,D` (R310). -/
def execRes0D (s : State) : Result := modifyReg (clearBit 0) .d s

/-- `RES 0,E` (R310). -/
def execRes0E (s : State) : Result := modifyReg (clearBit 0) .e s

/-- `RES 0,H` (R310). -/
def execRes0H (s : State) : Result := modifyReg (clearBit 0) .h s

/-- `RES 0,L` (R310). -/
def execRes0L (s : State) : Result := modifyReg (clearBit 0) .l s

/-- `RES 0,(HL)` (R310). -/
def execRes0IndHl (s : State) : Result := modifyIndHl (clearBit 0) s

/-- `RES 0,A` (R310). -/
def execRes0A (s : State) : Result := modifyReg (clearBit 0) .a s

/-- `RES 1,B` (R310). -/
def execRes1B (s : State) : Result := modifyReg (clearBit 1) .b s

/-- `RES 1,C` (R310). -/
def execRes1C (s : State) : Result := modifyReg (clearBit 1) .c s

/-- `RES 1,D` (R310). -/
def execRes1D (s : State) : Result := modifyReg (clearBit 1) .d s

/-- `RES 1,E` (R310). -/
def execRes1E (s : State) : Result := modifyReg (clearBit 1) .e s

/-- `RES 1,H` (R310). -/
def execRes1H (s : State) : Result := modifyReg (clearBit 1) .h s

/-- `RES 1,L` (R310). -/
def execRes1L (s : State) : Result := modifyReg (clearBit 1) .l s

/-- `RES 1,(HL)` (R310). -/
def execRes1IndHl (s : State) : Result := modifyIndHl (clearBit 1) s

/-- `RES 1,A` (R310). -/
def execRes1A (s : State) : Result := modifyReg (clearBit 1) .a s

/-- `RES 2,B` (R310). -/
def execRes2B (s : State) : Result := modifyReg (clearBit 2) .b s

/-- `RES 2,C` (R310). -/
def execRes2C (s : State) : Result := modifyReg (clearBit 2) .c s

/-- `RES 2,D` (R310). -/
def execRes2D (s : State) : Result := modifyReg (clearBit 2) .d s

/-- `RES 2,E` (R310). -/
def execRes2E (s : State) : Result := modifyReg (clearBit 2) .e s

/-- `RES 2,H` (R310). -/
def execRes2H (s : State) : Result := modifyReg (clearBit 2) .h s

/-- `RES 2,L` (R310). -/
def execRes2L (s : State) : Result := modifyReg (clearBit 2) .l s

/-- `RES 2,(HL)` (R310). -/
def execRes2IndHl (s : State) : Result := modifyIndHl (clearBit 2) s

/-- `RES 2,A` (R310). -/
def execRes2A (s : State) : Result := modifyReg (clearBit 2) .a s

/-- `RES 3,B` (R310). -/
def execRes3B (s : State) : Result := modifyReg (clearBit 3) .b s

/-- `RES 3,C` (R310). -/
def execRes3C (s : State) : Result := modifyReg (clearBit 3) .c s

/-- `RES 3,D` (R310). -/
def execRes3D (s : State) : Result := modifyReg (clearBit 3) .d s

/-- `RES 3,E` (R310). -/
def execRes3E (s : State) : Result := modifyReg (clearBit 3) .e s

/-- `RES 3,H` (R310). -/
def execRes3H (s : State) : Result := modifyReg (clearBit 3) .h s

/-- `RES 3,L` (R310). -/
def execRes3L (s : State) : Result := modifyReg (clearBit 3) .l s

/-- `RES 3,(HL)` (R310). -/
def execRes3IndHl (s : State) : Result := modifyIndHl (clearBit 3) s

/-- `RES 3,A` (R310). -/
def execRes3A (s : State) : Result := modifyReg (clearBit 3) .a s

/-- `RES 4,B` (R310). -/
def execRes4B (s : State) : Result := modifyReg (clearBit 4) .b s

/-- `RES 4,C` (R310). -/
def execRes4C (s : State) : Result := modifyReg (clearBit 4) .c s

/-- `RES 4,D` (R310). -/
def execRes4D (s : State) : Result := modifyReg (clearBit 4) .d s

/-- `RES 4,E` (R310). -/
def execRes4E (s : State) : Result := modifyReg (clearBit 4) .e s

/-- `RES 4,H` (R310). -/
def execRes4H (s : State) : Result := modifyReg (clearBit 4) .h s

/-- `RES 4,L` (R310). -/
def execRes4L (s : State) : Result := modifyReg (clearBit 4) .l s

/-- `RES 4,(HL)` (R310). -/
def execRes4IndHl (s : State) : Result := modifyIndHl (clearBit 4) s

/-- `RES 4,A` (R310). -/
def execRes4A (s : State) : Result := modifyReg (clearBit 4) .a s

/-- `RES 5,B` (R310). -/
def execRes5B (s : State) : Result := modifyReg (clearBit 5) .b s

/-- `RES 5,C` (R310). -/
def execRes5C (s : State) : Result := modifyReg (clearBit 5) .c s

/-- `RES 5,D` (R310). -/
def execRes5D (s : State) : Result := modifyReg (clearBit 5) .d s

/-- `RES 5,E` (R310). -/
def execRes5E (s : State) : Result := modifyReg (clearBit 5) .e s

/-- `RES 5,H` (R310). -/
def execRes5H (s : State) : Result := modifyReg (clearBit 5) .h s

/-- `RES 5,L` (R310). -/
def execRes5L (s : State) : Result := modifyReg (clearBit 5) .l s

/-- `RES 5,(HL)` (R310). -/
def execRes5IndHl (s : State) : Result := modifyIndHl (clearBit 5) s

/-- `RES 5,A` (R310). -/
def execRes5A (s : State) : Result := modifyReg (clearBit 5) .a s

/-- `RES 6,B` (R310). -/
def execRes6B (s : State) : Result := modifyReg (clearBit 6) .b s

/-- `RES 6,C` (R310). -/
def execRes6C (s : State) : Result := modifyReg (clearBit 6) .c s

/-- `RES 6,D` (R310). -/
def execRes6D (s : State) : Result := modifyReg (clearBit 6) .d s

/-- `RES 6,E` (R310). -/
def execRes6E (s : State) : Result := modifyReg (clearBit 6) .e s

/-- `RES 6,H` (R310). -/
def execRes6H (s : State) : Result := modifyReg (clearBit 6) .h s

/-- `RES 6,L` (R310). -/
def execRes6L (s : State) : Result := modifyReg (clearBit 6) .l s

/-- `RES 6,(HL)` (R310). -/
def execRes6IndHl (s : State) : Result := modifyIndHl (clearBit 6) s

/-- `RES 6,A` (R310). -/
def execRes6A (s : State) : Result := modifyReg (clearBit 6) .a s

/-- `RES 7,B` (R310). -/
def execRes7B (s : State) : Result := modifyReg (clearBit 7) .b s

/-- `RES 7,C` (R310). -/
def execRes7C (s : State) : Result := modifyReg (clearBit 7) .c s

/-- `RES 7,D` (R310). -/
def execRes7D (s : State) : Result := modifyReg (clearBit 7) .d s

/-- `RES 7,E` (R310). -/
def execRes7E (s : State) : Result := modifyReg (clearBit 7) .e s

/-- `RES 7,H` (R310). -/
def execRes7H (s : State) : Result := modifyReg (clearBit 7) .h s

/-- `RES 7,L` (R310). -/
def execRes7L (s : State) : Result := modifyReg (clearBit 7) .l s

/-- `RES 7,(HL)` (R310). -/
def execRes7IndHl (s : State) : Result := modifyIndHl (clearBit 7) s

/-- `RES 7,A` (R310). -/
def execRes7A (s : State) : Result := modifyReg (clearBit 7) .a s

/-- `SET 0,B` (R311). -/
def execSet0B (s : State) : Result := modifyReg (setBit 0) .b s

/-- `SET 0,C` (R311). -/
def execSet0C (s : State) : Result := modifyReg (setBit 0) .c s

/-- `SET 0,D` (R311). -/
def execSet0D (s : State) : Result := modifyReg (setBit 0) .d s

/-- `SET 0,E` (R311). -/
def execSet0E (s : State) : Result := modifyReg (setBit 0) .e s

/-- `SET 0,H` (R311). -/
def execSet0H (s : State) : Result := modifyReg (setBit 0) .h s

/-- `SET 0,L` (R311). -/
def execSet0L (s : State) : Result := modifyReg (setBit 0) .l s

/-- `SET 0,(HL)` (R311). -/
def execSet0IndHl (s : State) : Result := modifyIndHl (setBit 0) s

/-- `SET 0,A` (R311). -/
def execSet0A (s : State) : Result := modifyReg (setBit 0) .a s

/-- `SET 1,B` (R311). -/
def execSet1B (s : State) : Result := modifyReg (setBit 1) .b s

/-- `SET 1,C` (R311). -/
def execSet1C (s : State) : Result := modifyReg (setBit 1) .c s

/-- `SET 1,D` (R311). -/
def execSet1D (s : State) : Result := modifyReg (setBit 1) .d s

/-- `SET 1,E` (R311). -/
def execSet1E (s : State) : Result := modifyReg (setBit 1) .e s

/-- `SET 1,H` (R311). -/
def execSet1H (s : State) : Result := modifyReg (setBit 1) .h s

/-- `SET 1,L` (R311). -/
def execSet1L (s : State) : Result := modifyReg (setBit 1) .l s

/-- `SET 1,(HL)` (R311). -/
def execSet1IndHl (s : State) : Result := modifyIndHl (setBit 1) s

/-- `SET 1,A` (R311). -/
def execSet1A (s : State) : Result := modifyReg (setBit 1) .a s

/-- `SET 2,B` (R311). -/
def execSet2B (s : State) : Result := modifyReg (setBit 2) .b s

/-- `SET 2,C` (R311). -/
def execSet2C (s : State) : Result := modifyReg (setBit 2) .c s

/-- `SET 2,D` (R311). -/
def execSet2D (s : State) : Result := modifyReg (setBit 2) .d s

/-- `SET 2,E` (R311). -/
def execSet2E (s : State) : Result := modifyReg (setBit 2) .e s

/-- `SET 2,H` (R311). -/
def execSet2H (s : State) : Result := modifyReg (setBit 2) .h s

/-- `SET 2,L` (R311). -/
def execSet2L (s : State) : Result := modifyReg (setBit 2) .l s

/-- `SET 2,(HL)` (R311). -/
def execSet2IndHl (s : State) : Result := modifyIndHl (setBit 2) s

/-- `SET 2,A` (R311). -/
def execSet2A (s : State) : Result := modifyReg (setBit 2) .a s

/-- `SET 3,B` (R311). -/
def execSet3B (s : State) : Result := modifyReg (setBit 3) .b s

/-- `SET 3,C` (R311). -/
def execSet3C (s : State) : Result := modifyReg (setBit 3) .c s

/-- `SET 3,D` (R311). -/
def execSet3D (s : State) : Result := modifyReg (setBit 3) .d s

/-- `SET 3,E` (R311). -/
def execSet3E (s : State) : Result := modifyReg (setBit 3) .e s

/-- `SET 3,H` (R311). -/
def execSet3H (s : State) : Result := modifyReg (setBit 3) .h s

/-- `SET 3,L` (R311). -/
def execSet3L (s : State) : Result := modifyReg (setBit 3) .l s

/-- `SET 3,(HL)` (R311). -/
def execSet3IndHl (s : State) : Result := modifyIndHl (setBit 3) s

/-- `SET 3,A` (R311). -/
def execSet3A (s : State) : Result := modifyReg (setBit 3) .a s

/-- `SET 4,B` (R311). -/
def execSet4B (s : State) : Result := modifyReg (setBit 4) .b s

/-- `SET 4,C` (R311). -/
def execSet4C (s : State) : Result := modifyReg (setBit 4) .c s

/-- `SET 4,D` (R311). -/
def execSet4D (s : State) : Result := modifyReg (setBit 4) .d s

/-- `SET 4,E` (R311). -/
def execSet4E (s : State) : Result := modifyReg (setBit 4) .e s

/-- `SET 4,H` (R311). -/
def execSet4H (s : State) : Result := modifyReg (setBit 4) .h s

/-- `SET 4,L` (R311). -/
def execSet4L (s : State) : Result := modifyReg (setBit 4) .l s

/-- `SET 4,(HL)` (R311). -/
def execSet4IndHl (s : State) : Result := modifyIndHl (setBit 4) s

/-- `SET 4,A` (R311). -/
def execSet4A (s : State) : Result := modifyReg (setBit 4) .a s

/-- `SET 5,B` (R311). -/
def execSet5B (s : State) : Result := modifyReg (setBit 5) .b s

/-- `SET 5,C` (R311). -/
def execSet5C (s : State) : Result := modifyReg (setBit 5) .c s

/-- `SET 5,D` (R311). -/
def execSet5D (s : State) : Result := modifyReg (setBit 5) .d s

/-- `SET 5,E` (R311). -/
def execSet5E (s : State) : Result := modifyReg (setBit 5) .e s

/-- `SET 5,H` (R311). -/
def execSet5H (s : State) : Result := modifyReg (setBit 5) .h s

/-- `SET 5,L` (R311). -/
def execSet5L (s : State) : Result := modifyReg (setBit 5) .l s

/-- `SET 5,(HL)` (R311). -/
def execSet5IndHl (s : State) : Result := modifyIndHl (setBit 5) s

/-- `SET 5,A` (R311). -/
def execSet5A (s : State) : Result := modifyReg (setBit 5) .a s

/-- `SET 6,B` (R311). -/
def execSet6B (s : State) : Result := modifyReg (setBit 6) .b s

/-- `SET 6,C` (R311). -/
def execSet6C (s : State) : Result := modifyReg (setBit 6) .c s

/-- `SET 6,D` (R311). -/
def execSet6D (s : State) : Result := modifyReg (setBit 6) .d s

/-- `SET 6,E` (R311). -/
def execSet6E (s : State) : Result := modifyReg (setBit 6) .e s

/-- `SET 6,H` (R311). -/
def execSet6H (s : State) : Result := modifyReg (setBit 6) .h s

/-- `SET 6,L` (R311). -/
def execSet6L (s : State) : Result := modifyReg (setBit 6) .l s

/-- `SET 6,(HL)` (R311). -/
def execSet6IndHl (s : State) : Result := modifyIndHl (setBit 6) s

/-- `SET 6,A` (R311). -/
def execSet6A (s : State) : Result := modifyReg (setBit 6) .a s

/-- `SET 7,B` (R311). -/
def execSet7B (s : State) : Result := modifyReg (setBit 7) .b s

/-- `SET 7,C` (R311). -/
def execSet7C (s : State) : Result := modifyReg (setBit 7) .c s

/-- `SET 7,D` (R311). -/
def execSet7D (s : State) : Result := modifyReg (setBit 7) .d s

/-- `SET 7,E` (R311). -/
def execSet7E (s : State) : Result := modifyReg (setBit 7) .e s

/-- `SET 7,H` (R311). -/
def execSet7H (s : State) : Result := modifyReg (setBit 7) .h s

/-- `SET 7,L` (R311). -/
def execSet7L (s : State) : Result := modifyReg (setBit 7) .l s

/-- `SET 7,(HL)` (R311). -/
def execSet7IndHl (s : State) : Result := modifyIndHl (setBit 7) s

/-- `SET 7,A` (R311). -/
def execSet7A (s : State) : Result := modifyReg (setBit 7) .a s

end Sys2Proof.Machine
end

