-- ==== Sys2Proof/Machine/ControlFlow.lean ====
section
/-! DEFINITION. The meanings of jumps, calls, returns, restarts (45_control_flow.md),
one per row of the opcode table. PC is at the opcode when a meaning starts. -/

namespace Sys2Proof.Machine

/-- `JR e8` (R274). -/
def execJrE8 (n : Byte) (s : State) : Result := jumpRel true n s

/-- `JR NZ,e8` (R275). -/
def execJrNzE8 (n : Byte) (s : State) : Result := jumpRel (Cond.holds .nz s.cpu.f) n s

/-- `JR Z,e8` (R275). -/
def execJrZE8 (n : Byte) (s : State) : Result := jumpRel (Cond.holds .z s.cpu.f) n s

/-- `JR NC,e8` (R275). -/
def execJrNcE8 (n : Byte) (s : State) : Result := jumpRel (Cond.holds .nc s.cpu.f) n s

/-- `JR C,e8` (R275). -/
def execJrCE8 (n : Byte) (s : State) : Result := jumpRel (Cond.holds .c s.cpu.f) n s

/-- `RET NZ` (R279). -/
def execRetNz (s : State) : Result := retCond (Cond.holds .nz s.cpu.f) s

/-- `JP NZ,a16` (R272). -/
def execJpNzA16 (n : Word) (s : State) : Result := jumpAbs (Cond.holds .nz s.cpu.f) n s

/-- `JP a16` (R271). -/
def execJpA16 (n : Word) (s : State) : Result := jumpAbs true n s

/-- `CALL NZ,a16` (R277). -/
def execCallNzA16 (n : Word) (s : State) : Result := callAbs (Cond.holds .nz s.cpu.f) n s

/-- `RST 0x00` (R281). -/
def execRst00 (s : State) : Result := restart 0x00 s

/-- `RET Z` (R279). -/
def execRetZ (s : State) : Result := retCond (Cond.holds .z s.cpu.f) s

/-- `RET` (R278). -/
def execRet (s : State) : Result := ((s.advance 1).ret).retire 16

/-- `JP Z,a16` (R272). -/
def execJpZA16 (n : Word) (s : State) : Result := jumpAbs (Cond.holds .z s.cpu.f) n s

/-- `CALL Z,a16` (R277). -/
def execCallZA16 (n : Word) (s : State) : Result := callAbs (Cond.holds .z s.cpu.f) n s

/-- `CALL a16` (R276). -/
def execCallA16 (n : Word) (s : State) : Result := callAbs true n s

/-- `RST 0x08` (R281). -/
def execRst08 (s : State) : Result := restart 0x08 s

/-- `RET NC` (R279). -/
def execRetNc (s : State) : Result := retCond (Cond.holds .nc s.cpu.f) s

/-- `JP NC,a16` (R272). -/
def execJpNcA16 (n : Word) (s : State) : Result := jumpAbs (Cond.holds .nc s.cpu.f) n s

/-- `CALL NC,a16` (R277). -/
def execCallNcA16 (n : Word) (s : State) : Result := callAbs (Cond.holds .nc s.cpu.f) n s

/-- `RST 0x10` (R281). -/
def execRst10 (s : State) : Result := restart 0x10 s

/-- `RET C` (R279). -/
def execRetC (s : State) : Result := retCond (Cond.holds .c s.cpu.f) s

/-- `RETI` (R280). -/
def execReti (s : State) : Result := (returnFromInterrupt (s.advance 1)).retire 16

/-- `JP C,a16` (R272). -/
def execJpCA16 (n : Word) (s : State) : Result := jumpAbs (Cond.holds .c s.cpu.f) n s

/-- `CALL C,a16` (R277). -/
def execCallCA16 (n : Word) (s : State) : Result := callAbs (Cond.holds .c s.cpu.f) n s

/-- `RST 0x18` (R281). -/
def execRst18 (s : State) : Result := restart 0x18 s

/-- `RST 0x20` (R281). -/
def execRst20 (s : State) : Result := restart 0x20 s

/-- `JP HL` (R273). -/
def execJpHl (s : State) : Result := ((s.advance 1).jump s.hl).retire 4

/-- `RST 0x28` (R281). -/
def execRst28 (s : State) : Result := restart 0x28 s

/-- `RST 0x30` (R281). -/
def execRst30 (s : State) : Result := restart 0x30 s

/-- `RST 0x38` (R281). -/
def execRst38 (s : State) : Result := restart 0x38 s

end Sys2Proof.Machine
end

