-- ==== Sys2Proof/Machine/Load16.lean ====
section
/-! DEFINITION. The meanings of 16-bit loads and the stack (41_load16_stack.md),
one per row of the opcode table. PC is at the opcode when a meaning starts. -/

namespace Sys2Proof.Machine

/-- `LD BC,n16` (R200). -/
def execLdBcN16 (n : Word) (s : State) : Result := loadPair .bc n 3 12 s

/-- `LD (a16),SP` (R201). -/
def execLdIndA16Sp (n : Word) (s : State) : Result := storeSp n s

/-- `LD DE,n16` (R200). -/
def execLdDeN16 (n : Word) (s : State) : Result := loadPair .de n 3 12 s

/-- `LD HL,n16` (R200). -/
def execLdHlN16 (n : Word) (s : State) : Result := loadPair .hl n 3 12 s

/-- `LD SP,n16` (R200). -/
def execLdSpN16 (n : Word) (s : State) : Result := loadPair .sp n 3 12 s

/-- `POP BC` (R206). -/
def execPopBc (s : State) : Result := popStk .bc s

/-- `PUSH BC` (R204). -/
def execPushBc (s : State) : Result := pushStk .bc s

/-- `POP DE` (R206). -/
def execPopDe (s : State) : Result := popStk .de s

/-- `PUSH DE` (R204). -/
def execPushDe (s : State) : Result := pushStk .de s

/-- `POP HL` (R206). -/
def execPopHl (s : State) : Result := popStk .hl s

/-- `PUSH HL` (R204). -/
def execPushHl (s : State) : Result := pushStk .hl s

/-- `POP AF` (R207). -/
def execPopAf (s : State) : Result := popStk .af s

/-- `PUSH AF` (R205). -/
def execPushAf (s : State) : Result := pushStk .af s

/-- `LD HL,SP+e8` (R203). -/
def execLdHlSpE8 (n : Byte) (s : State) : Result := loadHlSp n s

/-- `LD SP,HL` (R202). -/
def execLdSpHl (s : State) : Result := loadPair .sp s.hl 1 8 s

end Sys2Proof.Machine
end

