-- ==== Sys2Proof/Machine/Load8.lean ====
section
/-! DEFINITION. The meanings of 8-bit loads (40_load8.md),
one per row of the opcode table. PC is at the opcode when a meaning starts. -/

namespace Sys2Proof.Machine

/-- `LD (BC),A` (R177). -/
def execLdIndBcA (s : State) : Result := storeTo (s.pair .bc) (s.reg .a) 1 8 s

/-- `LD B,n8` (R171). -/
def execLdBN8 (n : Byte) (s : State) : Result := loadReg .b n 2 8 s

/-- `LD A,(BC)` (R175). -/
def execLdAIndBc (s : State) : Result := loadFrom .a (s.pair .bc) 1 8 s

/-- `LD C,n8` (R171). -/
def execLdCN8 (n : Byte) (s : State) : Result := loadReg .c n 2 8 s

/-- `LD (DE),A` (R178). -/
def execLdIndDeA (s : State) : Result := storeTo (s.pair .de) (s.reg .a) 1 8 s

/-- `LD D,n8` (R171). -/
def execLdDN8 (n : Byte) (s : State) : Result := loadReg .d n 2 8 s

/-- `LD A,(DE)` (R176). -/
def execLdAIndDe (s : State) : Result := loadFrom .a (s.pair .de) 1 8 s

/-- `LD E,n8` (R171). -/
def execLdEN8 (n : Byte) (s : State) : Result := loadReg .e n 2 8 s

/-- `LD (HL+),A` (R185). -/
def execLdIndHliA (s : State) : Result := storeStep 1 s

/-- `LD H,n8` (R171). -/
def execLdHN8 (n : Byte) (s : State) : Result := loadReg .h n 2 8 s

/-- `LD A,(HL+)` (R186). -/
def execLdAIndHli (s : State) : Result := loadStep 1 s

/-- `LD L,n8` (R171). -/
def execLdLN8 (n : Byte) (s : State) : Result := loadReg .l n 2 8 s

/-- `LD (HL-),A` (R187). -/
def execLdIndHldA (s : State) : Result := storeStep (-1) s

/-- `LD (HL),n8` (R174). -/
def execLdIndHlN8 (n : Byte) (s : State) : Result := storeTo s.hl n 2 12 s

/-- `LD A,(HL-)` (R188). -/
def execLdAIndHld (s : State) : Result := loadStep (-1) s

/-- `LD A,n8` (R171). -/
def execLdAN8 (n : Byte) (s : State) : Result := loadReg .a n 2 8 s

/-- `LD B,B` (R170). -/
def execLdBB (s : State) : Result := loadReg .b (s.reg .b) 1 4 s

/-- `LD B,C` (R170). -/
def execLdBC (s : State) : Result := loadReg .b (s.reg .c) 1 4 s

/-- `LD B,D` (R170). -/
def execLdBD (s : State) : Result := loadReg .b (s.reg .d) 1 4 s

/-- `LD B,E` (R170). -/
def execLdBE (s : State) : Result := loadReg .b (s.reg .e) 1 4 s

/-- `LD B,H` (R170). -/
def execLdBH (s : State) : Result := loadReg .b (s.reg .h) 1 4 s

/-- `LD B,L` (R170). -/
def execLdBL (s : State) : Result := loadReg .b (s.reg .l) 1 4 s

/-- `LD B,(HL)` (R172). -/
def execLdBIndHl (s : State) : Result := loadFrom .b s.hl 1 8 s

/-- `LD B,A` (R170). -/
def execLdBA (s : State) : Result := loadReg .b (s.reg .a) 1 4 s

/-- `LD C,B` (R170). -/
def execLdCB (s : State) : Result := loadReg .c (s.reg .b) 1 4 s

/-- `LD C,C` (R170). -/
def execLdCC (s : State) : Result := loadReg .c (s.reg .c) 1 4 s

/-- `LD C,D` (R170). -/
def execLdCD (s : State) : Result := loadReg .c (s.reg .d) 1 4 s

/-- `LD C,E` (R170). -/
def execLdCE (s : State) : Result := loadReg .c (s.reg .e) 1 4 s

/-- `LD C,H` (R170). -/
def execLdCH (s : State) : Result := loadReg .c (s.reg .h) 1 4 s

/-- `LD C,L` (R170). -/
def execLdCL (s : State) : Result := loadReg .c (s.reg .l) 1 4 s

/-- `LD C,(HL)` (R172). -/
def execLdCIndHl (s : State) : Result := loadFrom .c s.hl 1 8 s

/-- `LD C,A` (R170). -/
def execLdCA (s : State) : Result := loadReg .c (s.reg .a) 1 4 s

/-- `LD D,B` (R170). -/
def execLdDB (s : State) : Result := loadReg .d (s.reg .b) 1 4 s

/-- `LD D,C` (R170). -/
def execLdDC (s : State) : Result := loadReg .d (s.reg .c) 1 4 s

/-- `LD D,D` (R170). -/
def execLdDD (s : State) : Result := loadReg .d (s.reg .d) 1 4 s

/-- `LD D,E` (R170). -/
def execLdDE (s : State) : Result := loadReg .d (s.reg .e) 1 4 s

/-- `LD D,H` (R170). -/
def execLdDH (s : State) : Result := loadReg .d (s.reg .h) 1 4 s

/-- `LD D,L` (R170). -/
def execLdDL (s : State) : Result := loadReg .d (s.reg .l) 1 4 s

/-- `LD D,(HL)` (R172). -/
def execLdDIndHl (s : State) : Result := loadFrom .d s.hl 1 8 s

/-- `LD D,A` (R170). -/
def execLdDA (s : State) : Result := loadReg .d (s.reg .a) 1 4 s

/-- `LD E,B` (R170). -/
def execLdEB (s : State) : Result := loadReg .e (s.reg .b) 1 4 s

/-- `LD E,C` (R170). -/
def execLdEC (s : State) : Result := loadReg .e (s.reg .c) 1 4 s

/-- `LD E,D` (R170). -/
def execLdED (s : State) : Result := loadReg .e (s.reg .d) 1 4 s

/-- `LD E,E` (R170). -/
def execLdEE (s : State) : Result := loadReg .e (s.reg .e) 1 4 s

/-- `LD E,H` (R170). -/
def execLdEH (s : State) : Result := loadReg .e (s.reg .h) 1 4 s

/-- `LD E,L` (R170). -/
def execLdEL (s : State) : Result := loadReg .e (s.reg .l) 1 4 s

/-- `LD E,(HL)` (R172). -/
def execLdEIndHl (s : State) : Result := loadFrom .e s.hl 1 8 s

/-- `LD E,A` (R170). -/
def execLdEA (s : State) : Result := loadReg .e (s.reg .a) 1 4 s

/-- `LD H,B` (R170). -/
def execLdHB (s : State) : Result := loadReg .h (s.reg .b) 1 4 s

/-- `LD H,C` (R170). -/
def execLdHC (s : State) : Result := loadReg .h (s.reg .c) 1 4 s

/-- `LD H,D` (R170). -/
def execLdHD (s : State) : Result := loadReg .h (s.reg .d) 1 4 s

/-- `LD H,E` (R170). -/
def execLdHE (s : State) : Result := loadReg .h (s.reg .e) 1 4 s

/-- `LD H,H` (R170). -/
def execLdHH (s : State) : Result := loadReg .h (s.reg .h) 1 4 s

/-- `LD H,L` (R170). -/
def execLdHL (s : State) : Result := loadReg .h (s.reg .l) 1 4 s

/-- `LD H,(HL)` (R172). -/
def execLdHIndHl (s : State) : Result := loadFrom .h s.hl 1 8 s

/-- `LD H,A` (R170). -/
def execLdHA (s : State) : Result := loadReg .h (s.reg .a) 1 4 s

/-- `LD L,B` (R170). -/
def execLdLB (s : State) : Result := loadReg .l (s.reg .b) 1 4 s

/-- `LD L,C` (R170). -/
def execLdLC (s : State) : Result := loadReg .l (s.reg .c) 1 4 s

/-- `LD L,D` (R170). -/
def execLdLD (s : State) : Result := loadReg .l (s.reg .d) 1 4 s

/-- `LD L,E` (R170). -/
def execLdLE (s : State) : Result := loadReg .l (s.reg .e) 1 4 s

/-- `LD L,H` (R170). -/
def execLdLH (s : State) : Result := loadReg .l (s.reg .h) 1 4 s

/-- `LD L,L` (R170). -/
def execLdLL (s : State) : Result := loadReg .l (s.reg .l) 1 4 s

/-- `LD L,(HL)` (R172). -/
def execLdLIndHl (s : State) : Result := loadFrom .l s.hl 1 8 s

/-- `LD L,A` (R170). -/
def execLdLA (s : State) : Result := loadReg .l (s.reg .a) 1 4 s

/-- `LD (HL),B` (R173). -/
def execLdIndHlB (s : State) : Result := storeTo s.hl (s.reg .b) 1 8 s

/-- `LD (HL),C` (R173). -/
def execLdIndHlC (s : State) : Result := storeTo s.hl (s.reg .c) 1 8 s

/-- `LD (HL),D` (R173). -/
def execLdIndHlD (s : State) : Result := storeTo s.hl (s.reg .d) 1 8 s

/-- `LD (HL),E` (R173). -/
def execLdIndHlE (s : State) : Result := storeTo s.hl (s.reg .e) 1 8 s

/-- `LD (HL),H` (R173). -/
def execLdIndHlH (s : State) : Result := storeTo s.hl (s.reg .h) 1 8 s

/-- `LD (HL),L` (R173). -/
def execLdIndHlL (s : State) : Result := storeTo s.hl (s.reg .l) 1 8 s

/-- `LD (HL),A` (R173). -/
def execLdIndHlA (s : State) : Result := storeTo s.hl (s.reg .a) 1 8 s

/-- `LD A,B` (R170). -/
def execLdAB (s : State) : Result := loadReg .a (s.reg .b) 1 4 s

/-- `LD A,C` (R170). -/
def execLdAC (s : State) : Result := loadReg .a (s.reg .c) 1 4 s

/-- `LD A,D` (R170). -/
def execLdAD (s : State) : Result := loadReg .a (s.reg .d) 1 4 s

/-- `LD A,E` (R170). -/
def execLdAE (s : State) : Result := loadReg .a (s.reg .e) 1 4 s

/-- `LD A,H` (R170). -/
def execLdAH (s : State) : Result := loadReg .a (s.reg .h) 1 4 s

/-- `LD A,L` (R170). -/
def execLdAL (s : State) : Result := loadReg .a (s.reg .l) 1 4 s

/-- `LD A,(HL)` (R172). -/
def execLdAIndHl (s : State) : Result := loadFrom .a s.hl 1 8 s

/-- `LD A,A` (R170). -/
def execLdAA (s : State) : Result := loadReg .a (s.reg .a) 1 4 s

/-- `LDH (a8),A` (R184). -/
def execLdhIndA8A (n : Byte) (s : State) : Result := storeTo (highAddr n) (s.reg .a) 2 12 s

/-- `LDH (C),A` (R182). -/
def execLdhIndCA (s : State) : Result := storeTo (highAddr (s.reg .c)) (s.reg .a) 1 8 s

/-- `LD (a16),A` (R180). -/
def execLdIndA16A (n : Word) (s : State) : Result := storeTo n (s.reg .a) 3 16 s

/-- `LDH A,(a8)` (R183). -/
def execLdhAIndA8 (n : Byte) (s : State) : Result := loadFrom .a (highAddr n) 2 12 s

/-- `LDH A,(C)` (R181). -/
def execLdhAIndC (s : State) : Result := loadFrom .a (highAddr (s.reg .c)) 1 8 s

/-- `LD A,(a16)` (R179). -/
def execLdAIndA16 (n : Word) (s : State) : Result := loadFrom .a n 3 16 s

end Sys2Proof.Machine
end

