-- ==== Sys2Proof/Machine/RotateMisc.lean ====
section
/-! DEFINITION. The meanings of accumulator rotates, DAA, CPL, SCF, CCF (44_rotate_misc.md),
one per row of the opcode table. PC is at the opcode when a meaning starts. -/

namespace Sys2Proof.Machine

/-- `RLCA` (R255). -/
def execRlca (s : State) : Result := rotateA .rlc s

/-- `RRCA` (R256). -/
def execRrca (s : State) : Result := rotateA .rrc s

/-- `RLA` (R257). -/
def execRla (s : State) : Result := rotateA .rl s

/-- `RRA` (R258). -/
def execRra (s : State) : Result := rotateA .rr s

/-- `DAA` (R259). -/
def execDaa (s : State) : Result := updateReg .a (daa (s.reg .a) s.cpu.f) 1 4 s

/-- `CPL` (R260). -/
def execCpl (s : State) : Result := updateReg .a (cpl (s.reg .a) s.cpu.f) 1 4 s

/-- `SCF` (R261). -/
def execScf (s : State) : Result := flagsOnly (scfFlags s.cpu.f) s

/-- `CCF` (R262). -/
def execCcf (s : State) : Result := flagsOnly (ccfFlags s.cpu.f) s

end Sys2Proof.Machine
end

