-- ==== Sys2Proof/Machine/System.lean ====
section
/-! DEFINITION. The meanings of NOP, HALT, STOP, DI, EI and the undefined opcodes (46_system.md),
one per row of the opcode table. PC is at the opcode when a meaning starts. -/

namespace Sys2Proof.Machine

/-- `NOP` (R290). -/
def execNop (s : State) : Result := (s.advance 1).retire 4

/-- `STOP` (R292). -/
def execStop (_n : Byte) (s : State) : Result :=
  State.retire { s.advance 2 with cpu := { (s.advance 2).cpu with stopped := true } } 4

/-- `HALT` (R291). -/
def execHalt (s : State) : Result :=
  State.retire { s.advance 1 with cpu := { (s.advance 1).cpu with halted := true } } 4

/-- `ILLEGAL_0xD3` (R295). -/
def execIllegalD3 (s : State) : Result := raiseIllegal 0xD3 s

/-- `ILLEGAL_0xDB` (R295). -/
def execIllegalDB (s : State) : Result := raiseIllegal 0xDB s

/-- `ILLEGAL_0xDD` (R295). -/
def execIllegalDD (s : State) : Result := raiseIllegal 0xDD s

/-- `ILLEGAL_0xE3` (R295). -/
def execIllegalE3 (s : State) : Result := raiseIllegal 0xE3 s

/-- `ILLEGAL_0xE4` (R295). -/
def execIllegalE4 (s : State) : Result := raiseIllegal 0xE4 s

/-- `ILLEGAL_0xEB` (R295). -/
def execIllegalEB (s : State) : Result := raiseIllegal 0xEB s

/-- `ILLEGAL_0xEC` (R295). -/
def execIllegalEC (s : State) : Result := raiseIllegal 0xEC s

/-- `ILLEGAL_0xED` (R295). -/
def execIllegalED (s : State) : Result := raiseIllegal 0xED s

/-- `DI` (R293). -/
def execDi (s : State) : Result :=
  State.retire { s.advance 1 with cpu := { (s.advance 1).cpu with ime := false, imePending := false } } 4

/-- `ILLEGAL_0xF4` (R295). -/
def execIllegalF4 (s : State) : Result := raiseIllegal 0xF4 s

/-- `EI` (R294). -/
def execEi (s : State) : Result :=
  State.retire { s.advance 1 with cpu := { (s.advance 1).cpu with imePending := true } } 4

/-- `ILLEGAL_0xFC` (R295). -/
def execIllegalFC (s : State) : Result := raiseIllegal 0xFC s

/-- `ILLEGAL_0xFD` (R295). -/
def execIllegalFD (s : State) : Result := raiseIllegal 0xFD s

end Sys2Proof.Machine
end

