-- ==== Sys2Proof/Machine/Timer.lean ====
section
/-! DEFINITION. The timer (60_exceptions.md section 6). The two loops of R350 are written by the number of times they
run, `acc / period`, and what they leave, `acc % period` (log 14). -/

namespace Sys2Proof.Machine

/-- Cycles of one TIMA increment, by TAC bits 1:0 (R352). -/
def timaPeriod (tac : Byte) : Nat :=
  match tac.toNat % 4 with
  | 0 => 1024
  | 1 => 16
  | 2 => 64
  | _ => 256

/-- One TIMA increment (R352): from 0xFF it loads TMA and requests the Timer interrupt. -/
def timaTick (s : State) : State :=
  if s.io.tima = 0xFF#8 then (s.setIo .tima s.io.tma).requestInterrupt .timer
  else s.setIo .tima (s.io.tima + 1)

/-- `n` TIMA increments. -/
def timaTicks : Nat → State → State
  | 0, s => s
  | n + 1, s => timaTicks n (timaTick s)

/-- The DIV part of `TimerStep(c)` (R351). -/
def divStep (c : Nat) (s : State) : State :=
  let acc := s.timer.divAcc + c
  { s.setIo .div (s.io.div + BitVec.ofNat 8 (acc / 256)) with timer := { s.timer with divAcc := acc % 256 } }

/-- The TIMA part of `TimerStep(c)` (R352). -/
def timaStep (c : Nat) (s : State) : State :=
  if s.io.tac.getLsbD 2 then
    let acc := s.timer.timaAcc + c
    let period := timaPeriod s.io.tac
    timaTicks (acc / period) { s with timer := { s.timer with timaAcc := acc % period } }
  else s

/-- `TimerStep(c)` (R350). -/
def timerStep (c : Nat) (s : State) : State := timaStep c (divStep c s)

end Sys2Proof.Machine
end

