-- ==== Sys2Proof/Machine/CpuStep.lean ====
section
/-! DEFINITION. The CPU step (60_exceptions.md section 2) and the machine step around it (section 1). -/

namespace Sys2Proof.Machine

/-- The instruction at PC (R144, R327): ordinary bus reads, which change nothing (R100), of the three bytes an
instruction can have; `decode3` uses those the instruction does have (log 11). -/
def fetch (s : State) : Instr :=
  decode3 (busRead s s.cpu.pc) (busRead s (s.cpu.pc + 1)) (busRead s (s.cpu.pc + 2))

/-- The end of an instruction's step (R322, R328): if the `EI` latch was set when the step began and still is, `ime` is
set and the latch cleared. -/
def promoteEi (latched : Bool) (r : Result) : Result :=
  match r with
  | .next t =>
    if latched && t.cpu.imePending then .next { t with cpu := { t.cpu with ime := true, imePending := false } }
    else .next t
  | .fault e => .fault e
  | .refused e => .refused e

/-- The part of `CpuStep` after the interrupt check (R326 to R328): a stall of 4 cycles, or one instruction. -/
def stallOrExecute (s : State) : Result :=
  if s.cpu.halted then s.retire 4 else promoteEi s.cpu.imePending (exec (fetch s) s)

/-- `CpuStep()` (R321). -/
def cpuStep (s : State) : Result :=
  if s.cpu.fault.isSome then .refused .cpuFaulted
  else if s.cpu.stopped then .refused .stopped
  else
    match lowestIrq s.fired with
    | some k => if s.cpu.ime then dispatchInterrupt k s else stallOrExecute { s with cpu := { s.cpu with halted := false } }
    | none => stallOrExecute s

/-- The PPU, then the timer, consume the cycles of the CPU step (R320). They see what the instruction of this same machine
step wrote, so that a write in the step in which mode 3 ends affects the line rendered there (R108, R320, R378, R462). R465
lets only a write retired before that step affect it: the model follows the other four by analogy with the
precedence of 90_conflicts.md, no entry of which rules on R465 (DEDUCED, unsafe; log 26). -/
def advanceDevices (s : State) : State := timerStep s.cycles (ppuStep s.cycles s)

/-- `MachineStep()` (R320). A fault or a refusal ends it, and the devices do not advance. -/
def machineStep (s : State) : Result :=
  match cpuStep s with
  | .next t => .next (advanceDevices t)
  | .fault e => .fault e
  | .refused e => .refused e

/-- Where PC is in ROM, the load of a program (R110 to R112; log 6): the cartridge becomes one of 32 KiB without a
controller, its header saying so. Elsewhere no load is needed. -/
def loadPlainCart (s : State) : State :=
  if s.cpu.pc.toNat < 0x8000 then
    { s with cart := { s.cart with
        romSize := .kib32
        mbc := .noMbc
        rom := Store.put (Store.put s.cart.rom 0x147 0x00) 0x148 0x00 } }
  else s

/-- The three bytes of a table word, placed at PC and after it from outside the machine (log 6, log 12). -/
def placeTableWord (s : State) (nbits w : Nat) : State :=
  let t := loadPlainCart s
  match tableBytes nbits w with
  | [b0, b1, b2] => poke (poke (poke t t.cpu.pc b0) (t.cpu.pc + 1) b1) (t.cpu.pc + 2) b2
  | _ => t

end Sys2Proof.Machine
end

