-- ==== Sys2Proof/Machine/HostOps.lean ====
section
/-! DEFINITION. What the host does between machine steps (60_exceptions.md section 9): load, reset, buttons, the frame
loop, reading the picture. None of it is part of `step` (log 16). -/

namespace Sys2Proof.Machine

/-! ### Load (20_memory.md R110 to R114) -/

/-- Why a cartridge file is refused: no machine exists (R114, R342). -/
inductive LoadError where
  | romTooShort
  | unsupportedMbc (code : Byte)
  | badRomSize (code : Byte)
  | badRamSize (code : Byte)
deriving DecidableEq, Repr

/-- The controller kind of header byte 0x0147, at its reset values (R111). -/
def Mbc.ofCode (code : Byte) : Option Mbc :=
  if code = 0x00#8 then some .noMbc
  else if code ∈ [0x01#8, 0x02#8, 0x03#8] then some (.mbc1 Mbc1.reset)
  else if code ∈ [0x11#8, 0x12#8, 0x13#8] then some (.mbc3 Mbc3.reset)
  else none

/-- The ROM size of header byte 0x0148 (R112). -/
def RomSize.ofCode (code : Byte) : Option RomSize :=
  [RomSize.kib32, .kib64, .kib128, .kib256, .kib512, .kib1024, .kib2048][code.toNat]?

/-- The RAM size of header byte 0x0149 (R113). -/
def RamSize.ofCode (code : Byte) : Option RamSize :=
  [RamSize.none, .kib2, .kib8, .kib32, .kib128, .kib64][code.toNat]?

/-- The title of a cartridge file: the bytes 0x0134 to 0x0143 before the first zero (R110). -/
def headerTitle (file : List Byte) : List Byte := ((file.drop 0x134).take 16).takeWhile (fun b => b != 0)

/-- Consecutive bytes as a byte array from index `i` on. -/
def storeOf (i : Nat) : List Byte → Memory
  | [] => []
  | b :: bs => (i, b) :: storeOf (i + 1) bs

/-- The cartridge of a file (R110 to R114). The order of the checks is the model's (log 15). -/
def parseCart (file : List Byte) : Except LoadError Cart :=
  if file.length < 0x150 then .error .romTooShort
  else
    match Mbc.ofCode (file.getD 0x147 0), RomSize.ofCode (file.getD 0x148 0), RamSize.ofCode (file.getD 0x149 0) with
    | none, _, _ => .error (.unsupportedMbc (file.getD 0x147 0))
    | some _, none, _ => .error (.badRomSize (file.getD 0x148 0))
    | some _, some _, none => .error (.badRamSize (file.getD 0x149 0))
    | some mbc, some romSize, some ramSize =>
      if file.length < romSize.banks * 0x4000 then .error .romTooShort
      else .ok ⟨headerTitle file, romSize, ramSize, storeOf 0 (file.take (romSize.banks * 0x4000)), mbc, []⟩

/-- `Load(rom bytes)`: the cartridge, then reset (R390). -/
def loadMachine (file : List Byte) (epoch : Nat) : Except LoadError State :=
  match parseCart file with
  | .ok c => .ok (State.powerOn c epoch)
  | .error e => .error e

/-! ### Reset, buttons, picture -/

/-- `Reset()` (R450): everything at its reset value, the RAM arrays open again; the ROM image and the header stay. -/
def resetMachine (s : State) : State := State.powerOn s.cart (s.epoch + 1)

/-- The keys of the joypad (R61). -/
inductive Button where
  | right | left | up | down | a | b | select | start
deriving DecidableEq, Repr

/-- Whether a key is pressed. -/
def Buttons.get (k : Buttons) : Button → Bool
  | .right => k.right
  | .left => k.left
  | .up => k.up
  | .down => k.down
  | .a => k.a
  | .b => k.b
  | .select => k.select
  | .start => k.start

/-- The keys with one of them set. -/
def Buttons.set (k : Buttons) (key : Button) (pressed : Bool) : Buttons :=
  match key with
  | .right => { k with right := pressed }
  | .left => { k with left := pressed }
  | .up => { k with up := pressed }
  | .down => { k with down := pressed }
  | .a => { k with a := pressed }
  | .b => { k with b := pressed }
  | .select => { k with select := pressed }
  | .start => { k with start := pressed }

/-- `SetButton(b, pressed)` (R392). -/
def setButton (key : Button) (pressed : Bool) (s : State) : State :=
  joypadUpdate { s with joypad := { s.joypad with btn := s.joypad.btn.set key pressed } }

/-- Reading and clearing `frame_ready` (R59, R390). -/
def clearFrameReady (s : State) : State := { s with ppu := { s.ppu with frameReady := false } }

/-- The shade of a pixel of the framebuffer, one of 0..3 (R57); free where its line was not rendered yet (log 5). -/
def shadeAt (s : State) (y x : Nat) : BitVec 2 :=
  match Store.get? s.ppu.fb y with
  | some row => row.getD x 0
  | none => Config.fbInit s.epoch y x

/-- A pixel of the framebuffer as RGBA (R57): `DMG_PALETTE` of its shade (log 4). -/
def framebufferAt (s : State) (y x : Nat) : Rgba := Config.dmgPalette (shadeAt s y x)

/-- A component of a pixel: red, green, blue, alpha. -/
def pixelByte (p : Rgba) (k : Nat) : Byte := [p.r, p.g, p.b, p.a].getD k 0

/-- Byte `n` of the framebuffer (R57): row-major, four bytes a pixel, so pixel `(x, y)` begins at `(y*160 + x)*4`. -/
def framebufferByte (s : State) (n : Nat) : Byte :=
  pixelByte (framebufferAt s (n / 4 / 160) (n / 4 % 160)) (n % 4)

/-- The framebuffer as the host sees it: its 160 x 144 x 4 bytes (R57). -/
def framebufferBytes (s : State) : List Byte := (List.range (144 * 160 * 4)).map (framebufferByte s)

/-- The colour index of a pixel before the palette (R58); free where its line was not rendered yet (log 5). -/
def bgiAt (s : State) (y x : Nat) : BitVec 2 :=
  match Store.get? s.ppu.bgi y with
  | some row => row.getD x 0
  | none => Config.bgiInit s.epoch y x

/-! ### The frame loop (R391) -/

/-- How `RunFrame` ends. -/
inductive FrameEnd where
  /-- The frame is complete; `frame_total` keeps the overshoot. -/
  | done (s : State)
  /-- A step raised `IllegalOpcode`; `s` is the state it left, `cpu_fault` set. -/
  | fault (s : State) (e : IllegalOpcode)
  /-- A step was refused in the state `s`. -/
  | refused (s : State) (r : Refusal)
deriving DecidableEq, Repr

/-- The loop of `RunFrame`, at most `fuel` machine steps; a step takes at least 4 cycles, so a quarter of a frame's cycles
is fuel enough (log 14). -/
def frameLoop : Nat → State → FrameEnd
  | 0, s => .done s
  | n + 1, s =>
    if s.frameTotal < Config.frameCycles then
      match step s with
      | .next t => frameLoop n { t with frameTotal := t.frameTotal + t.cycles }
      | .fault (.illegalOpcode op pc) => .fault (s.afterFault op pc) ⟨op, pc⟩
      | .refused r => .refused s r
    else .done s

/-- `RunFrame()` (R391). -/
def runFrame (s : State) : FrameEnd :=
  match frameLoop (Config.frameCycles / 4) s with
  | .done t => .done { t with frameTotal := t.frameTotal - Config.frameCycles }
  | .fault t e => .fault t e
  | .refused t r => .refused t r

end Sys2Proof.Machine
end

