-- ==== Sys2Proof/Safety.lean ====
section
/-! DEFINITION. The terms claims are stated in: the bytes of an encoding by its fields (30_encoding.md R142), operand
forms, flags one by one, the cell behind an address and the stores of an instruction, the PPU's position in a frame, and
what every state of a run satisfies. Nothing here is used by the machine. -/

namespace Sys2Proof

/-! ### Encodings by their fields (R142, R145 to R149) -/

/-- The opcode byte with fields x, y, z (R142). -/
def opcodeOf (x y z : Nat) : Byte := BitVec.ofNat 8 (64 * x + 8 * y + z)

/-- The index of a register in `r8[]` (R145). -/
def Reg8.index : Reg8 → Nat
  | .b => 0
  | .c => 1
  | .d => 2
  | .e => 3
  | .h => 4
  | .l => 5
  | .a => 7

/-- The index of an operand in `r8[]` (R145). -/
def Operand8.index : Operand8 → Nat
  | .reg r => r.index
  | .indHl => 6

/-- The index of a pair in `r16[]` (R146). -/
def Pair.index : Pair → Nat
  | .bc => 0
  | .de => 1
  | .hl => 2
  | .sp => 3

/-- The index of a pair in `r16stk[]` (R147). -/
def StkPair.index : StkPair → Nat
  | .bc => 0
  | .de => 1
  | .hl => 2
  | .af => 3

/-- The index of a condition in `cc[]` (R148). -/
def Cond.index : Cond → Nat
  | .nz => 0
  | .z => 1
  | .nc => 2
  | .c => 3

/-- The index of an operation in `alu[]` (R149). -/
def AluOp.index : AluOp → Nat
  | .add => 0
  | .adc => 1
  | .sub => 2
  | .sbc => 3
  | .and => 4
  | .xor => 5
  | .or => 6
  | .cp => 7

/-- The index of an operation in `rot[]` (R149). -/
def RotOp.index : RotOp → Nat
  | .rlc => 0
  | .rrc => 1
  | .rl => 2
  | .rr => 3
  | .sla => 4
  | .sra => 5
  | .swap => 6
  | .srl => 7

/-! ### Instructions by their operand -/

/-- The right operand of an accumulator operation (R215). -/
inductive AluArg where
  | reg (r : Reg8)
  | indHl
  | imm (n : Byte)
deriving DecidableEq, Repr

/-- `op A,s` (R215). -/
def AluArg.instr (op : AluOp) : AluArg → Instr
  | .reg r => Form.aluReg op r
  | .indHl => Form.aluIndHl op
  | .imm n => Form.aluN8 op n

/-- The bytes of `op A,s` (R215). -/
def AluArg.bytes (op : AluOp) : AluArg → List Byte
  | .reg r => [opcodeOf 2 op.index r.index]
  | .indHl => [opcodeOf 2 op.index 6]
  | .imm n => [opcodeOf 3 op.index 6, n]

/-- Length of `op A,s` in bytes (R215). -/
def AluArg.length : AluArg → Nat
  | .reg _ => 1
  | .indHl => 1
  | .imm _ => 2

/-- Cycles of `op A,s` (R215). -/
def AluArg.cycles : AluArg → Nat
  | .reg _ => 4
  | .indHl => 8
  | .imm _ => 8

/-- `INC r`, `INC (HL)`. -/
def incForm : Operand8 → Instr
  | .reg r => Form.incReg r
  | .indHl => .incIndHl

/-- `DEC r`, `DEC (HL)`. -/
def decForm : Operand8 → Instr
  | .reg r => Form.decReg r
  | .indHl => .decIndHl

/-- A CB rotate, shift or SWAP of an operand. -/
def rotForm (op : RotOp) : Operand8 → Instr
  | .reg r => Form.rotReg op r
  | .indHl => Form.rotIndHl op

/-- `BIT n` of an operand. -/
def bitForm (n : Fin 8) : Operand8 → Instr
  | .reg r => Form.bitReg n r
  | .indHl => Form.bitIndHl n

/-- `RES n` of an operand. -/
def resForm (n : Fin 8) : Operand8 → Instr
  | .reg r => Form.resReg n r
  | .indHl => Form.resIndHl n

/-- `SET n` of an operand. -/
def setForm (n : Fin 8) : Operand8 → Instr
  | .reg r => Form.setReg n r
  | .indHl => Form.setIndHl n

namespace Machine

/-- The value of an operand of `r8[]` (R145). -/
def operandValue (s : State) : Operand8 → Byte
  | .reg r => s.cpu.reg r
  | .indHl => busRead s (s.cpu.pair .hl)

/-- The state with a byte written to an operand of `r8[]`: a register, or the byte at HL through the bus. -/
def writeOperand (s : State) (o : Operand8) (v : Byte) : State :=
  match o with
  | .reg r => { s with cpu := s.cpu.setReg r v }
  | .indHl => busWrite s (s.cpu.pair .hl) v

/-- `n` for a register, `m` for `(HL)`. -/
def byOperand (o : Operand8) (n m : Nat) : Nat :=
  match o with
  | .reg _ => n
  | .indHl => m

/-- The right operand of an accumulator operation, read. -/
def aluArgValue (s : State) : AluArg → Byte
  | .reg r => s.cpu.reg r
  | .indHl => busRead s (s.cpu.pair .hl)
  | .imm n => n

/-- The state with this CPU and this cycle count, everything else kept. -/
def State.withCpu (s : State) (c : Cpu) (n : Nat) : State := { s with cpu := c, cycles := n }

/-! ### Flags, bits -/

/-- F holds these four flags, and its low nibble is 0 (R22). -/
def FlagsAre (f : Byte) (z n h c : Bool) : Prop :=
  f.getLsbD 7 = z ∧ f.getLsbD 6 = n ∧ f.getLsbD 5 = h ∧ f.getLsbD 4 = c ∧ f &&& 0x0F = 0

/-- Bit `i` of the result of a rotate, shift or SWAP of `v` with the old carry `c` (R301 to R308). -/
def rotatedBit (op : RotOp) (v : Byte) (c : Bool) (i : Nat) : Bool :=
  match op with
  | .rlc => v.getLsbD ((i + 7) % 8)
  | .rrc => v.getLsbD ((i + 1) % 8)
  | .rl => if i = 0 then c else v.getLsbD (i - 1)
  | .rr => if i = 7 then c else v.getLsbD (i + 1)
  | .sla => if i = 0 then false else v.getLsbD (i - 1)
  | .sra => if i = 7 then v.getLsbD 7 else v.getLsbD (i + 1)
  | .swap => v.getLsbD ((i + 4) % 8)
  | .srl => if i = 7 then false else v.getLsbD (i + 1)

/-- The bit that a rotate or shift moves out of `v` into the carry; SWAP moves none (R301 to R308). -/
def rotatedOut (op : RotOp) (v : Byte) : Bool :=
  match op with
  | .rlc => v.getLsbD 7
  | .rrc => v.getLsbD 0
  | .rl => v.getLsbD 7
  | .rr => v.getLsbD 0
  | .sla => v.getLsbD 7
  | .sra => v.getLsbD 0
  | .swap => false
  | .srl => v.getLsbD 0

/-- The packed-BCD byte of a number below 100. -/
def toBcd (n : Nat) : Byte := BitVec.ofNat 8 (16 * (n / 10) + n % 10)

/-! ### Cells and stores -/

/-- The cell behind an address (R71): echo addresses have the cell of WRAM they alias (R74), an external RAM address that of
the byte of `XRAM` its window shows, or none (`unusable`) where it shows no RAM (R118, R122, R125). -/
def cellOf (s : State) (a : Word) : Loc :=
  match locate a with
  | .xram off =>
    match xramIndex s.cart off with
    | some i => .xram i
    | none => .unusable
  | l => l

/-- The I/O offsets whose write is more than a store of the byte (R85 to R93). TIMA and TAC are not among them: their hook
is the bare store, by the decision D15 of the spec (R88, R89; log 9). -/
def hookedOffset (off : Nat) : Bool := off ∈ [0x00, 0x04, 0x40, 0x41, 0x44, 0x46]

/-- A write to this address is a store of the byte to the address's cell and nothing else (R73, R94, R100). -/
def plainStore (s : State) (a : Word) : Bool :=
  match cellOf s a with
  | .vram _ | .xram _ | .wram _ | .oam _ | .hram _ | .ie => true
  | .io off => !hookedOffset off
  | .bank0 _ | .bankN _ | .unusable => false

/-- The addresses an instruction stores to, in order, in the state it starts in (R170 to R311). -/
def storeAddrs (i : Instr) (s : State) : List Word :=
  match i with
  | .ldIndBcA => [s.cpu.pair .bc]
  | .ldIndA16Sp a => [a, a + 1]
  | .ldIndDeA => [s.cpu.pair .de]
  | .ldIndHliA | .ldIndHldA | .incIndHl | .decIndHl | .ldIndHlN8 _ | .ldIndHlB | .ldIndHlC | .ldIndHlD
  | .ldIndHlE | .ldIndHlH | .ldIndHlL | .ldIndHlA | .rlcIndHl | .rrcIndHl | .rlIndHl | .rrIndHl | .slaIndHl
  | .sraIndHl | .swapIndHl | .srlIndHl | .res0IndHl | .res1IndHl | .res2IndHl | .res3IndHl | .res4IndHl
  | .res5IndHl | .res6IndHl | .res7IndHl | .set0IndHl | .set1IndHl | .set2IndHl | .set3IndHl | .set4IndHl
  | .set5IndHl | .set6IndHl | .set7IndHl => [s.cpu.pair .hl]
  | .callNzA16 _ => if Cond.holds .nz s.cpu.f then [s.cpu.sp - 1, s.cpu.sp - 2] else []
  | .pushBc | .rst00 | .callA16 _ | .rst08 | .pushDe | .rst10 | .rst18 | .pushHl | .rst20 | .rst28 | .pushAf
  | .rst30 | .rst38 => [s.cpu.sp - 1, s.cpu.sp - 2]
  | .callZA16 _ => if Cond.holds .z s.cpu.f then [s.cpu.sp - 1, s.cpu.sp - 2] else []
  | .callNcA16 _ => if Cond.holds .nc s.cpu.f then [s.cpu.sp - 1, s.cpu.sp - 2] else []
  | .callCA16 _ => if Cond.holds .c s.cpu.f then [s.cpu.sp - 1, s.cpu.sp - 2] else []
  | .ldhIndA8A a => [highAddr a]
  | .ldhIndCA => [highAddr s.cpu.c]
  | .ldIndA16A a => [a]
  | _ => []

/-- The instruction may write IME at once: `DI` and `RETI` (R280, R293). -/
def writesIme (i : Instr) : Bool := i == .di || i == .reti

/-! ### The picture -/

/-- Where in its frame of 70224 cycles the PPU is (R370, R377). -/
def framePosition (p : Ppu) : Nat :=
  match p.mode with
  | .oamScan => 456 * p.line + p.acc
  | .drawing => 456 * p.line + 80 + p.acc
  | .hBlank => 456 * p.line + 252 + p.acc
  | .vBlank => 456 * p.line + p.acc

/-- The bus address of a background or window tile (R378): `0x8000 + 16*t`, or `0x9000 + 16*sext(t)`, by LCDC bit 4. -/
def bgTileAddress (lcdc t : Byte) : Word :=
  if lcdc.getLsbD 4 then 0x8000#16 + (zext16 t <<< 4) else 0x9000#16 + (sext16 t <<< 4)

/-- The colour index at row `row`, column `col` of the tile at a bus address (R378). -/
def tileIndexAt (s : State) (addr : Word) (row col : Nat) : BitVec 2 :=
  BitVec.ofNat 2 (2 * ((busRead s (addr + BitVec.ofNat 16 (2 * row + 1))).getLsbD (7 - col)).toNat +
    ((busRead s (addr + BitVec.ofNat 16 (2 * row))).getLsbD (7 - col)).toNat)

/-- The colour index at pixel `(px, py)` of the tile map at a bus address (R379). -/
def mapIndexAt (s : State) (map : Word) (px py : Nat) : BitVec 2 :=
  tileIndexAt s (bgTileAddress s.io.lcdc (busRead s (map + BitVec.ofNat 16 (32 * (py / 8) + px / 8)))) (py % 8) (px % 8)

/-- The shade a sprite puts at screen column `x` of line `ly`, if it puts one there (R384): its column covers `x`, its
colour index is not 0, and it is not behind a background index other than 0. -/
def spriteShade (s : State) (ly : Nat) (row : List Pixel) (x : Nat) (sp : Sprite) : Option (BitVec 2) :=
  let h := spriteHeight s
  let line := ly + 16 - sp.y.toNat
  let px := x + 8 - sp.x.toNat
  let t := if h = 16 then sp.tile &&& 0xFE else sp.tile
  let idx := tilePixel s (16 * t.toNat) (if sp.flags.getLsbD 6 then h - 1 - line else line)
    (if sp.flags.getLsbD 5 then 7 - px else px)
  if sp.x.toNat ≤ x + 8 ∧ x + 8 < sp.x.toNat + 8 ∧ idx ≠ 0#2 ∧
      (sp.flags.getLsbD 7 = false ∨ (row.getD x default).bgi = 0#2) then
    some (shadeOf (if sp.flags.getLsbD 4 then s.io.obp1 else s.io.obp0) idx)
  else none

/-! ### What every state of a run satisfies -/

/-- The PPU is at a place of its frame: a line of 0..153, in VBlank exactly from line 144 on, fewer cycles accumulated
than its mode lasts (R370, R371). -/
structure PpuPlaced (p : Ppu) : Prop where
  line_le : p.line ≤ 153
  vBlank_iff : p.mode = .vBlank ↔ 144 ≤ p.line
  acc_lt : p.acc < p.mode.duration

/-- The rows of a rendered picture: lines 0..143, 160 entries each (R57, R58). -/
def RowsOk (rows : Store (List (BitVec 2))) : Prop := ∀ e ∈ rows, e.1 < 144 ∧ e.2.length = 160

/-- The bank-controller registers hold values they can hold: no ROM bank register is 0 (R53, R54, R119, R123). -/
def mbcOk : Mbc → Bool
  | .noMbc => true
  | .mbc1 r => r.romLow != 0
  | .mbc3 r => r.romBank != 0

/-- What holds at reset and after every step. -/
structure Inv (s : State) : Prop where
  /-- F's low nibble is 0 (R22). -/
  f_low : s.cpu.f &&& 0x0F = 0
  /-- Every sparse array is in canonical form. -/
  vram_wf : Memory.wf s.vram
  wram_wf : Memory.wf s.wram
  oam_wf : Memory.wf s.oam
  hram_wf : Memory.wf s.hram
  plain_wf : Memory.wf s.io.plain
  rom_wf : Memory.wf s.cart.rom
  xram_wf : Memory.wf s.cart.xram
  fb_wf : Store.wf s.ppu.fb
  bgi_wf : Store.wf s.ppu.bgi
  /-- The picture is 144 rows of 160 (R57, R58). -/
  fb_rows : RowsOk s.ppu.fb
  bgi_rows : RowsOk s.ppu.bgi
  /-- No ROM bank register is 0 (R53, R54). -/
  mbc_ok : mbcOk s.cart.mbc = true
  /-- P1 reads as its select bits and the matrix give it (R361, R362). -/
  p1_form : s.io.p1 = p1Value s.joypad.btn s.io.p1
  /-- The PPU is at a place of its frame. -/
  placed : PpuPlaced s.ppu
  /-- LY is the line (R43, R375). -/
  ly_line : s.io.ly = BitVec.ofNat 8 s.ppu.line
  /-- While the LCD is off the PPU is at line 0, mode 2, accumulator 0 (R372). -/
  lcd_off : s.io.lcdc.getLsbD 7 = false → s.ppu.line = 0 ∧ s.ppu.mode = .oamScan ∧ s.ppu.acc = 0
  /-- The DIV accumulator is below 256, and the TIMA accumulator below the period while TAC enables it (R353). -/
  div_lt : s.timer.divAcc < 256
  tima_lt : s.io.tac.getLsbD 2 = true → s.timer.timaAcc < timaPeriod s.io.tac

/-- STAT bits 1:0 are the number of the PPU's mode (R41, R373). Not so at reset (90_conflicts.md C4). -/
def StatAgrees (s : State) : Prop := s.io.stat &&& 0x03 = s.ppu.mode.bits

/-- A safe run: `n` steps are taken from `s`, with no fault and no refusal. -/
def SafeFor : Nat → State → Prop
  | 0, _ => True
  | n + 1, s => ∃ t, step s = .next t ∧ SafeFor n t

end Machine

end Sys2Proof
end

