-- ==== Sys2Proof/Certificates/Slice0/Obligations.lean ====
section
/-! DEFINITION. The statements for the provers. A result is stated as the whole next state (`State.withCpu` keeps all but the
CPU and the cycle count), so it is the frame of the instruction as well. -/

open Sys2Proof Sys2Proof.Machine

/-- Eleven words written out from the grids decode to their instructions (30_encoding.md R141, R154 and R162, the
formats and the two opcode grids). -/
def Obligations.SampleWordsDecode : Prop :=
  decode [0x00] = .ok (.nop, []) ∧
  decode [0x06, 0x03] = .ok (.ldBN8 0x03, []) ∧
  decode [0x21, 0x00, 0xC0] = .ok (.ldHlN16 0xC000, []) ∧
  decode [0xAF] = .ok (.xorAA, []) ∧
  decode [0x20, 0xFD] = .ok (.jrNzE8 0xFD, []) ∧
  decode [0xE0, 0x46] = .ok (.ldhIndA8A 0x46, []) ∧
  decode [0xCD, 0x00, 0x20] = .ok (.callA16 0x2000, []) ∧
  decode [0xCB, 0x7C] = .ok (.bit7H, []) ∧
  decode [0xCB, 0xCB] = .ok (.set1E, []) ∧
  decode [0x76] = .ok (.halt, []) ∧
  decode [0xDD] = .ok (.illegalDD, [])

/-- Decoding an encoded instruction gives it back, for every instruction and every immediate (30_encoding.md R141, R144
to R155). -/
def Obligations.DecodeOfEncodeIsIdentity : Prop :=
  ∀ (i : Instr) (rest : List Byte), decode (encode i ++ rest) = .ok (i, rest)

/-- Whatever three bytes are decoded, the instruction found encodes to the bytes it was read from (30_encoding.md R144,
R150 to R156, R161). -/
def Obligations.EncodeOfDecodeIsPrefix : Prop :=
  ∀ b0 b1 b2 : Byte, encode (decode3 b0 b1 b2) <+: [b0, b1, b2]

/-- Exactly the eleven listed first bytes are undefined, whatever follows them (30_encoding.md R144, R156, 46_system.md
R295). That the fault records the address of the opcode is the decision D7 of the spec (log 9). -/
def Obligations.UndefinedOpcodesAreTheseEleven : Prop :=
  ∀ (b0 b1 b2 : Byte) (s : State),
    ((decode3 b0 b1 b2).isIllegal = true ↔
      b0 ∈ [0xD3#8, 0xDB#8, 0xDD#8, 0xE3#8, 0xE4#8, 0xEB#8, 0xEC#8, 0xED#8, 0xF4#8, 0xFC#8, 0xFD#8]) ∧
    ((decode3 b0 b1 b2).isIllegal = true ↔ exec (decode3 b0 b1 b2) s = .fault (.illegalOpcode b0 s.cpu.pc))

/-- A step that fetches runs exactly the decoded instruction; every step then gives its cycles to the PPU and to the
timer (60_exceptions.md R320, R321, R325, R327, R328). The promotion of the EI latch at the end of the step is the
decision D1 of the spec (log 9); that a woken core runs its instruction in the same step is derived by the spec in
R325; that three bytes are read ahead is log 11 (DEDUCED). -/
def Obligations.StepRunsDecodedInstruction : Prop :=
  (∀ (s : State) (i : Instr) (rest : List Byte),
    s.cpu.fault = none → s.cpu.stopped = false →
    (s.cpu.ime = false ∨ s.ie &&& s.io.ifr &&& 0x1F = 0) →
    (s.cpu.halted = false ∨ s.ie &&& s.io.ifr &&& 0x1F ≠ 0) →
    decode [busRead s s.cpu.pc, busRead s (s.cpu.pc + 1), busRead s (s.cpu.pc + 2)] = .ok (i, rest) → WellFormed i →
    ∃ t, exec i (s.withCpu { s.cpu with halted := false } s.cycles) = .next t ∧
      let u := if s.cpu.imePending && t.cpu.imePending then
          t.withCpu { t.cpu with ime := true, imePending := false } t.cycles
        else t
      cpuStep s = .next u ∧ step s = .next (timerStep t.cycles (ppuStep t.cycles u))) ∧
  (∀ s : State,
    (∀ t, cpuStep s = .next t → step s = .next (timerStep t.cycles (ppuStep t.cycles t))) ∧
    (∀ e, cpuStep s = .fault e → step s = .fault e) ∧ (∀ r, cpuStep s = .refused r → step s = .refused r))

/-- Every defined instruction answers a next state, in every state (60_exceptions.md R321, R327, R341, 10_state.md R22). -/
def Obligations.EveryDefinedInstructionCompletes : Prop :=
  ∀ (i : Instr) (s : State), WellFormed i → ∃ t, exec i s = .next t ∧ t.cycles ∈ [4, 8, 12, 16, 20, 24] ∧
    (t.cpu.f = s.cpu.f ∨ t.cpu.f &&& 0x0F = 0) ∧ t.cpu.fault = s.cpu.fault ∧ t.frameTotal = s.frameTotal ∧
    t.cart.rom = s.cart.rom

/-- An undefined opcode faults; the state it leaves refuses every step until reset (46_system.md R295, 60_exceptions.md
R321, R325, R340). What the fault records is the decision D7 of the spec (log 9); afterFault is the model's way to
give the state the fault leaves (log 10, DEDUCED), and that it keeps halted where the step had just woken the core
is the model's choice (log 25, DESIGN CHOICE). -/
def Obligations.UndefinedOpcodeFaultsUntilReset : Prop :=
  ∀ (i : Instr) (s : State), ¬ WellFormed i → ∃ op, encode i = [op] ∧
    exec i s = .fault (.illegalOpcode op s.cpu.pc) ∧
    (s.cpu.fault = none → s.cpu.stopped = false → (s.cpu.halted = false ∨ s.ie &&& s.io.ifr &&& 0x1F ≠ 0) →
      (s.cpu.ime = false ∨ s.ie &&& s.io.ifr &&& 0x1F = 0) → busRead s s.cpu.pc = op →
      step s = .fault (.illegalOpcode op s.cpu.pc)) ∧
    s.afterFault op s.cpu.pc =
      s.withCpu { s.cpu with pc := s.cpu.pc + 1, fault := some ⟨op, s.cpu.pc⟩ } s.cycles ∧
    step (s.afterFault op s.cpu.pc) = .refused .cpuFaulted ∧
    (resetMachine (s.afterFault op s.cpu.pc)).cpu.fault = none

/-- STOP sets stopped; a stopped core refuses every step until reset (46_system.md R292, 60_exceptions.md R321). That a
stopped core is refused is the decision D6 of the spec (log 10). -/
def Obligations.StopStopsTheCoreUntilReset : Prop :=
  (∀ (n : Byte) (s : State), encode (.stop n) = [0x10, n] ∧
    exec (.stop n) s = .next (s.withCpu { s.cpu with pc := s.cpu.pc + 2, stopped := true } 4)) ∧
  (∀ s : State, s.cpu.fault = none → s.cpu.stopped = true →
    step s = .refused .stopped ∧ (resetMachine s).cpu.stopped = false ∧
    ∀ k p, (setButton k p s).cpu.stopped = true)

/-- LD r,r', LD r,n8 and LD r,(HL): encoding, result, cycles, and nothing else changes (R170, R171, R172). -/
def Obligations.LoadRegister : Prop :=
  (∀ (dst src : Reg8) (s : State), encode (Form.ldRegReg dst src) = [opcodeOf 1 dst.index src.index] ∧
    exec (Form.ldRegReg dst src) s =
      .next (s.withCpu { s.cpu.setReg dst (s.cpu.reg src) with pc := s.cpu.pc + 1 } 4)) ∧
  (∀ (dst : Reg8) (n : Byte) (s : State), encode (Form.ldRegN8 dst n) = [opcodeOf 0 dst.index 6, n] ∧
    exec (Form.ldRegN8 dst n) s = .next (s.withCpu { s.cpu.setReg dst n with pc := s.cpu.pc + 2 } 8)) ∧
  (∀ (dst : Reg8) (s : State), encode (Form.ldRegIndHl dst) = [opcodeOf 1 dst.index 6] ∧
    exec (Form.ldRegIndHl dst) s =
      .next (s.withCpu { s.cpu.setReg dst (busRead s (s.cpu.h ++ s.cpu.l)) with pc := s.cpu.pc + 1 } 8)) ∧
  (∀ (r q : Reg8) (v : Byte) (c : Cpu), (c.setReg r v).reg q = if q = r then v else c.reg q) ∧
  (∀ (v : Byte) (c : Cpu), c.setReg .a v = { c with a := v } ∧ c.setReg .b v = { c with b := v } ∧
    c.setReg .c v = { c with c := v } ∧ c.setReg .d v = { c with d := v } ∧ c.setReg .e v = { c with e := v } ∧
    c.setReg .h v = { c with h := v } ∧ c.setReg .l v = { c with l := v })

/-- The loads of A from memory: encoding, address, cycles, and nothing else changes (R175, R176, R179, R181, R183, R186,
R188). -/
def Obligations.LoadAccumulator : Prop :=
  ∀ (s : State) (w : Word) (n : Byte),
    encode .ldAIndBc = [0x0A] ∧ encode .ldAIndDe = [0x1A] ∧ encode (.ldAIndA16 w) = [0xFA, w.extractLsb' 0 8, w.extractLsb' 8 8] ∧
    encode .ldhAIndC = [0xF2] ∧ encode (.ldhAIndA8 n) = [0xF0, n] ∧ encode .ldAIndHli = [0x2A] ∧ encode .ldAIndHld = [0x3A] ∧
    exec .ldAIndBc s = .next (s.withCpu { s.cpu with a := busRead s (s.cpu.b ++ s.cpu.c), pc := s.cpu.pc + 1 } 8) ∧
    exec .ldAIndDe s = .next (s.withCpu { s.cpu with a := busRead s (s.cpu.d ++ s.cpu.e), pc := s.cpu.pc + 1 } 8) ∧
    exec (.ldAIndA16 w) s = .next (s.withCpu { s.cpu with a := busRead s w, pc := s.cpu.pc + 3 } 16) ∧
    exec .ldhAIndC s = .next (s.withCpu { s.cpu with a := busRead s (0xFF#8 ++ s.cpu.c), pc := s.cpu.pc + 1 } 8) ∧
    exec (.ldhAIndA8 n) s = .next (s.withCpu { s.cpu with a := busRead s (0xFF#8 ++ n), pc := s.cpu.pc + 2 } 12) ∧
    (∃ c, exec .ldAIndHli s = .next (s.withCpu c 8) ∧ c.h ++ c.l = s.cpu.h ++ s.cpu.l + 1#16 ∧
      c = { s.cpu with a := busRead s (s.cpu.h ++ s.cpu.l), h := c.h, l := c.l, pc := s.cpu.pc + 1 }) ∧
    (∃ c, exec .ldAIndHld s = .next (s.withCpu c 8) ∧ c.h ++ c.l = s.cpu.h ++ s.cpu.l - 1#16 ∧
      c = { s.cpu with a := busRead s (s.cpu.h ++ s.cpu.l), h := c.h, l := c.l, pc := s.cpu.pc + 1 })

/-- The one-byte stores: encoding, address, byte, cycles; the rest of the CPU is kept (R173, R174, R177, R178, R180,
R182, R184, R185, R187). -/
def Obligations.StoreByte : Prop :=
  ∀ (s : State) (w : Word) (n : Byte),
    let hl := s.cpu.h ++ s.cpu.l
    (∀ r : Reg8, encode (Form.ldIndHlReg r) = [opcodeOf 1 6 r.index] ∧
      exec (Form.ldIndHlReg r) s =
        .next ((busWrite s hl (s.cpu.reg r)).withCpu { s.cpu with pc := s.cpu.pc + 1 } 8)) ∧
    encode (.ldIndHlN8 n) = [0x36, n] ∧ encode .ldIndBcA = [0x02] ∧ encode .ldIndDeA = [0x12] ∧
    encode (.ldIndA16A w) = [0xEA, w.extractLsb' 0 8, w.extractLsb' 8 8] ∧ encode .ldhIndCA = [0xE2] ∧
    encode (.ldhIndA8A n) = [0xE0, n] ∧ encode .ldIndHliA = [0x22] ∧ encode .ldIndHldA = [0x32] ∧
    exec (.ldIndHlN8 n) s = .next ((busWrite s hl n).withCpu { s.cpu with pc := s.cpu.pc + 2 } 12) ∧
    exec .ldIndBcA s =
      .next ((busWrite s (s.cpu.b ++ s.cpu.c) s.cpu.a).withCpu { s.cpu with pc := s.cpu.pc + 1 } 8) ∧
    exec .ldIndDeA s =
      .next ((busWrite s (s.cpu.d ++ s.cpu.e) s.cpu.a).withCpu { s.cpu with pc := s.cpu.pc + 1 } 8) ∧
    exec (.ldIndA16A w) s = .next ((busWrite s w s.cpu.a).withCpu { s.cpu with pc := s.cpu.pc + 3 } 16) ∧
    exec .ldhIndCA s =
      .next ((busWrite s (0xFF#8 ++ s.cpu.c) s.cpu.a).withCpu { s.cpu with pc := s.cpu.pc + 1 } 8) ∧
    exec (.ldhIndA8A n) s = .next ((busWrite s (0xFF#8 ++ n) s.cpu.a).withCpu { s.cpu with pc := s.cpu.pc + 2 } 12) ∧
    (∃ c, exec .ldIndHliA s = .next ((busWrite s hl s.cpu.a).withCpu c 8) ∧ c.h ++ c.l = hl + 1#16 ∧
      c = { s.cpu with h := c.h, l := c.l, pc := s.cpu.pc + 1 }) ∧
    (∃ c, exec .ldIndHldA s = .next ((busWrite s hl s.cpu.a).withCpu c 8) ∧ c.h ++ c.l = hl - 1#16 ∧
      c = { s.cpu with h := c.h, l := c.l, pc := s.cpu.pc + 1 })

/-- LD rr,n16 and LD SP,HL; a pair is its two registers, the first the high byte (R200, R202, R21). -/
def Obligations.LoadPairAndStackPointer : Prop :=
  (∀ (p : Pair) (w : Word) (s : State),
    encode (Form.ldPairN16 p w) = [opcodeOf 0 (2 * p.index) 1, w.extractLsb' 0 8, w.extractLsb' 8 8] ∧
    exec (Form.ldPairN16 p w) s = .next (s.withCpu { s.cpu.setPair p w with pc := s.cpu.pc + 3 } 12)) ∧
  (∀ s : State, encode .ldSpHl = [0xF9] ∧
    exec .ldSpHl s = .next (s.withCpu { s.cpu with sp := s.cpu.h ++ s.cpu.l, pc := s.cpu.pc + 1 } 8)) ∧
  (∀ (c : Cpu), c.pair .bc = c.b ++ c.c ∧ c.pair .de = c.d ++ c.e ∧ c.pair .hl = c.h ++ c.l ∧ c.pair .sp = c.sp) ∧
  (∀ (p q : Pair) (w : Word) (c : Cpu), (c.setPair p w).pair q = if q = p then w else c.pair q) ∧
  (∀ (w : Word) (c : Cpu), c.setPair .bc w = { c with b := w.extractLsb' 8 8, c := w.extractLsb' 0 8 } ∧
    c.setPair .de w = { c with d := w.extractLsb' 8 8, e := w.extractLsb' 0 8 } ∧
    c.setPair .hl w = { c with h := w.extractLsb' 8 8, l := w.extractLsb' 0 8 } ∧ c.setPair .sp w = { c with sp := w }) ∧
  (∀ (w : Word) (c : Cpu), c.setStk .af w = { c with a := w.extractLsb' 8 8, f := w.extractLsb' 0 8 &&& 0xF0 })

/-- LD HL,SP+e8 and ADD SP,e8: signed sum, flags of the unsigned low-byte sum (R203, R248). -/
def Obligations.StackPointerOffset : Prop :=
  ∀ (e : Byte) (s : State),
    encode (.ldHlSpE8 e) = [0xF8, e] ∧ encode (.addSpE8 e) = [0xE8, e] ∧
    ∃ (f : Byte) (r : Word),
      (r.toNat : Int) = ((s.cpu.sp.toNat : Int) + e.toInt) % 65536 ∧
      FlagsAre f false false (decide (s.cpu.sp.toNat % 16 + e.toNat % 16 > 15))
        (decide (s.cpu.sp.toNat % 256 + e.toNat > 255)) ∧
      exec (.ldHlSpE8 e) s = .next (s.withCpu
        { s.cpu with h := r.extractLsb' 8 8, l := r.extractLsb' 0 8, f := f, pc := s.cpu.pc + 2 } 12) ∧
      exec (.addSpE8 e) s = .next (s.withCpu { s.cpu with sp := r, f := f, pc := s.cpu.pc + 2 } 16)

/-- PUSH rr, PUSH AF and LD (a16),SP: the two bytes, their order, their addresses (R201, R204, R205). -/
def Obligations.PushAndStoreSp : Prop :=
  (∀ (p : StkPair) (s : State), encode (Form.push p) = [opcodeOf 3 (2 * p.index) 5] ∧
    let hi := match p with | .bc => s.cpu.b | .de => s.cpu.d | .hl => s.cpu.h | .af => s.cpu.a
    let lo := match p with | .bc => s.cpu.c | .de => s.cpu.e | .hl => s.cpu.l | .af => s.cpu.f &&& 0xF0
    exec (Form.push p) s = .next ((busWrite (busWrite s (s.cpu.sp - 1) hi) (s.cpu.sp - 2) lo).withCpu
      { s.cpu with sp := s.cpu.sp - 2, pc := s.cpu.pc + 1 } 16)) ∧
  (∀ (w : Word) (s : State), encode (.ldIndA16Sp w) = [0x08, w.extractLsb' 0 8, w.extractLsb' 8 8] ∧
    exec (.ldIndA16Sp w) s =
      .next ((busWrite (busWrite s w (s.cpu.sp.extractLsb' 0 8)) (w + 1) (s.cpu.sp.extractLsb' 8 8)).withCpu
        { s.cpu with pc := s.cpu.pc + 3 } 20))

/-- POP rr and POP AF: the two bytes, SP, and F masked (R206, R207). -/
def Obligations.PopLoadsPair : Prop :=
  ∀ s : State,
    let lo := busRead s s.cpu.sp
    let hi := busRead s (s.cpu.sp + 1)
    (∀ p : StkPair, encode (Form.pop p) = [opcodeOf 3 (2 * p.index) 1]) ∧
    exec (Form.pop .bc) s = .next (s.withCpu { s.cpu with b := hi, c := lo, sp := s.cpu.sp + 2, pc := s.cpu.pc + 1 } 12) ∧
    exec (Form.pop .de) s = .next (s.withCpu { s.cpu with d := hi, e := lo, sp := s.cpu.sp + 2, pc := s.cpu.pc + 1 } 12) ∧
    exec (Form.pop .hl) s = .next (s.withCpu { s.cpu with h := hi, l := lo, sp := s.cpu.sp + 2, pc := s.cpu.pc + 1 } 12) ∧
    exec (Form.pop .af) s =
      .next (s.withCpu { s.cpu with a := hi, f := lo &&& 0xF0, sp := s.cpu.sp + 2, pc := s.cpu.pc + 1 } 12)

/-- PUSH then POP of the same pair gives back the pair, SP and the flags (41_load16_stack.md R204 to R207,
95_test_vectors.md T1). -/
def Obligations.PushThenPopIsIdentity : Prop :=
  ∀ (p : StkPair) (s : State), plainStore s (s.cpu.sp - 1) = true → plainStore s (s.cpu.sp - 2) = true →
    s.cpu.f &&& 0x0F = 0 →
    ∃ t u, exec (Form.push p) s = .next t ∧ exec (Form.pop p) t = .next u ∧
      u.cpu = { s.cpu with pc := s.cpu.pc + 2 } ∧ u.cpu.sp = s.cpu.sp

/-- ADD and ADC in all operand forms: sum, flags, cycles, and nothing else changes (R216, R217). -/
def Obligations.AddAndAddWithCarry : Prop :=
  ∀ (arg : AluArg) (s : State) (withCarry : Bool),
    let op := if withCarry then AluOp.adc else AluOp.add
    let a := s.cpu.a.toNat
    let b := (aluArgValue s arg).toNat
    let c := if withCarry && s.cpu.f.getLsbD 4 then 1 else 0
    encode (arg.instr op) = arg.bytes op ∧
    ∃ f, FlagsAre f (decide ((a + b + c) % 256 = 0)) false (decide (a % 16 + b % 16 + c > 15)) (decide (a + b + c > 255)) ∧
      exec (arg.instr op) s = .next (s.withCpu
        { s.cpu with a := BitVec.ofNat 8 (a + b + c), f := f, pc := s.cpu.pc + BitVec.ofNat 16 arg.length } arg.cycles)

/-- SUB, SBC and CP in all operand forms: difference, borrows, cycles; CP keeps A (R218, R219, R223). -/
def Obligations.SubtractAndCompare : Prop :=
  ∀ (arg : AluArg) (s : State),
    let a := s.cpu.a.toNat
    let b := (aluArgValue s arg).toNat
    let carry := if s.cpu.f.getLsbD 4 then 1 else 0
    let after (c : Nat) (f : Byte) := FlagsAre f (decide ((a + 512 - b - c) % 256 = 0)) true
      (decide (a % 16 < b % 16 + c)) (decide (a < b + c))
    let result (v : Byte) (f : Byte) := Host.Outcome.next (s.withCpu
      { s.cpu with a := v, f := f, pc := s.cpu.pc + BitVec.ofNat 16 arg.length } arg.cycles)
    encode (arg.instr .sub) = arg.bytes .sub ∧ encode (arg.instr .sbc) = arg.bytes .sbc ∧
    encode (arg.instr .cp) = arg.bytes .cp ∧
    (∃ f, after 0 f ∧ exec (arg.instr .sub) s = result (BitVec.ofNat 8 (a + 512 - b)) f ∧
      exec (arg.instr .cp) s = result s.cpu.a f) ∧
    (∃ f, after carry f ∧ exec (arg.instr .sbc) s = result (BitVec.ofNat 8 (a + 512 - b - carry)) f)

/-- AND, XOR and OR in all operand forms: every result bit, the flags, nothing else (R220, R221, R222). -/
def Obligations.LogicOperations : Prop :=
  ∀ (arg : AluArg) (s : State) (op : AluOp), op = .and ∨ op = .xor ∨ op = .or →
    encode (arg.instr op) = arg.bytes op ∧
    ∃ r f : Byte,
      (∀ i, r.getLsbD i =
        if op = .and then s.cpu.a.getLsbD i && (aluArgValue s arg).getLsbD i
        else if op = .xor then s.cpu.a.getLsbD i != (aluArgValue s arg).getLsbD i
        else s.cpu.a.getLsbD i || (aluArgValue s arg).getLsbD i) ∧
      FlagsAre f (decide (r.toNat = 0)) false (decide (op = .and)) false ∧
      exec (arg.instr op) s = .next (s.withCpu
        { s.cpu with a := r, f := f, pc := s.cpu.pc + BitVec.ofNat 16 arg.length } arg.cycles)

/-- INC and DEC of a register and of (HL): result, flags with C kept, cycles (R224, R225, R226, R227). -/
def Obligations.IncrementDecrementByte : Prop :=
  ∀ (o : Operand8) (s : State),
    let v := (operandValue s o).toNat
    let result (r f : Byte) := Host.Outcome.next ((writeOperand s o r).withCpu
      { (writeOperand s o r).cpu with f := f, pc := s.cpu.pc + 1 } (byOperand o 4 12))
    encode (incForm o) = [opcodeOf 0 o.index 4] ∧ encode (decForm o) = [opcodeOf 0 o.index 5] ∧
    (∃ f, FlagsAre f (decide (v = 255)) false (decide (v % 16 = 15)) (s.cpu.f.getLsbD 4) ∧
      exec (incForm o) s = result (BitVec.ofNat 8 (v + 1)) f) ∧
    (∃ f, FlagsAre f (decide (v = 1)) true (decide (v % 16 = 0)) (s.cpu.f.getLsbD 4) ∧
      exec (decForm o) s = result (BitVec.ofNat 8 (v + 255)) f)

/-- INC rr, DEC rr and ADD HL,rr: result, flags, cycles, and nothing else changes (R245, R246, R247). -/
def Obligations.PairArithmetic : Prop :=
  ∀ (p : Pair) (s : State),
    let v := (s.cpu.pair p).toNat
    let hl := (s.cpu.h ++ s.cpu.l).toNat
    encode (Form.incPair p) = [opcodeOf 0 (2 * p.index) 3] ∧ encode (Form.decPair p) = [opcodeOf 0 (2 * p.index + 1) 3] ∧
    encode (Form.addHlPair p) = [opcodeOf 0 (2 * p.index + 1) 1] ∧
    exec (Form.incPair p) s =
      .next (s.withCpu { s.cpu.setPair p (BitVec.ofNat 16 (v + 1)) with pc := s.cpu.pc + 1 } 8) ∧
    exec (Form.decPair p) s =
      .next (s.withCpu { s.cpu.setPair p (BitVec.ofNat 16 (v + 65535)) with pc := s.cpu.pc + 1 } 8) ∧
    ∃ f, FlagsAre f (s.cpu.f.getLsbD 7) false (decide (hl % 4096 + v % 4096 > 4095)) (decide (hl + v > 65535)) ∧
      exec (Form.addHlPair p) s =
        .next (s.withCpu { s.cpu.setPair .hl (BitVec.ofNat 16 (hl + v)) with f := f, pc := s.cpu.pc + 1 } 8)

/-- RLCA, RRCA, RLA, RRA, CPL, SCF, CCF: every bit of A, every flag, nothing else (R255, R256, R257, R258, R260, R261,
R262). -/
def Obligations.AccumulatorRotatesAndCarry : Prop :=
  ∀ s : State,
    (∀ x ∈ [(RotOp.rlc, Instr.rlca, 0x07#8), (RotOp.rrc, Instr.rrca, 0x0F#8), (RotOp.rl, Instr.rla, 0x17#8),
        (RotOp.rr, Instr.rra, 0x1F#8)],
      encode x.2.1 = [x.2.2] ∧ ∃ r f : Byte, (∀ i, i < 8 → r.getLsbD i = rotatedBit x.1 s.cpu.a (s.cpu.f.getLsbD 4) i) ∧
        FlagsAre f false false false (rotatedOut x.1 s.cpu.a) ∧
        exec x.2.1 s = .next (s.withCpu { s.cpu with a := r, f := f, pc := s.cpu.pc + 1 } 4)) ∧
    encode .cpl = [0x2F] ∧ encode .scf = [0x37] ∧ encode .ccf = [0x3F] ∧
    (∃ f, FlagsAre f (s.cpu.f.getLsbD 7) true true (s.cpu.f.getLsbD 4) ∧
      exec .cpl s = .next (s.withCpu { s.cpu with a := ~~~s.cpu.a, f := f, pc := s.cpu.pc + 1 } 4)) ∧
    (∃ f, FlagsAre f (s.cpu.f.getLsbD 7) false false true ∧
      exec .scf s = .next (s.withCpu { s.cpu with f := f, pc := s.cpu.pc + 1 } 4)) ∧
    (∃ f, FlagsAre f (s.cpu.f.getLsbD 7) false false (!s.cpu.f.getLsbD 4) ∧
      exec .ccf s = .next (s.withCpu { s.cpu with f := f, pc := s.cpu.pc + 1 } 4))

/-- DAA: the correction, its two tests on the original A, the flags, nothing else (R259). -/
def Obligations.DecimalAdjust : Prop :=
  ∀ s : State,
    let a := s.cpu.a.toNat
    let n := s.cpu.f.getLsbD 6
    let low := s.cpu.f.getLsbD 5 || (!n && decide (a % 16 > 9))
    let high := s.cpu.f.getLsbD 4 || (!n && decide (a > 0x99))
    let corr := (if low then 0x06 else 0) + (if high then 0x60 else 0)
    let r := if n then a + 256 - corr else a + corr
    encode .daa = [0x27] ∧
    ∃ f, FlagsAre f (decide (r % 256 = 0)) n false (if n then s.cpu.f.getLsbD 4 else high) ∧
      exec .daa s = .next (s.withCpu { s.cpu with a := BitVec.ofNat 8 r, f := f, pc := s.cpu.pc + 1 } 4)

/-- ADC or SBC of two packed-BCD bytes followed by DAA is decimal addition or subtraction (42_alu8.md R217, R219,
44_rotate_misc.md R259). -/
def Obligations.DaaMakesDecimalArithmetic : Prop :=
  ∀ (s : State) (x y : Nat), x < 100 → y < 100 → s.cpu.a = toBcd x →
    let c := if s.cpu.f.getLsbD 4 then 1 else 0
    (∃ t u, exec (.adcAN8 (toBcd y)) s = .next t ∧ exec .daa t = .next u ∧
      u.cpu.a = toBcd ((x + y + c) % 100) ∧ u.cpu.f.getLsbD 4 = decide (x + y + c ≥ 100)) ∧
    (∃ t u, exec (.sbcAN8 (toBcd y)) s = .next t ∧ exec .daa t = .next u ∧
      u.cpu.a = toBcd ((x + 200 - y - c) % 100) ∧ u.cpu.f.getLsbD 4 = decide (x < y + c))

/-- The CB rotates, shifts and SWAP on registers and (HL): every bit, every flag (R301, R302, R303, R304, R305, R306,
R307, R308). -/
def Obligations.RotateShiftSwap : Prop :=
  ∀ (op : RotOp) (o : Operand8) (s : State),
    let v := operandValue s o
    encode (rotForm op o) = [0xCB, opcodeOf 0 op.index o.index] ∧
    ∃ r f : Byte, (∀ i, i < 8 → r.getLsbD i = rotatedBit op v (s.cpu.f.getLsbD 4) i) ∧
      FlagsAre f (decide (r.toNat = 0)) false false (rotatedOut op v) ∧
      exec (rotForm op o) s = .next ((writeOperand s o r).withCpu
        { (writeOperand s o r).cpu with f := f, pc := s.cpu.pc + 2 } (byOperand o 8 16))

/-- BIT n on registers and (HL): Z the complement of the bit, C kept, nothing written (R309). -/
def Obligations.TestBit : Prop :=
  ∀ (n : Fin 8) (o : Operand8) (s : State),
    encode (bitForm n o) = [0xCB, opcodeOf 1 n.val o.index] ∧
    ∃ f, FlagsAre f (!(operandValue s o).getLsbD n.val) false true (s.cpu.f.getLsbD 4) ∧
      exec (bitForm n o) s = .next (s.withCpu { s.cpu with f := f, pc := s.cpu.pc + 2 } (byOperand o 8 12))

/-- RES n and SET n on registers and (HL): one bit changed, no flag, the write always made (R310, R311). -/
def Obligations.ResetAndSetBit : Prop :=
  ∀ (n : Fin 8) (o : Operand8) (s : State),
    let v := operandValue s o
    let result (r : Byte) := Host.Outcome.next ((writeOperand s o r).withCpu
      { (writeOperand s o r).cpu with pc := s.cpu.pc + 2 } (byOperand o 8 16))
    encode (resForm n o) = [0xCB, opcodeOf 2 n.val o.index] ∧ encode (setForm n o) = [0xCB, opcodeOf 3 n.val o.index] ∧
    (∃ r : Byte, (∀ i, i < 8 → r.getLsbD i = if i = n.val then false else v.getLsbD i) ∧ exec (resForm n o) s = result r) ∧
    (∃ r : Byte, (∀ i, i < 8 → r.getLsbD i = if i = n.val then true else v.getLsbD i) ∧ exec (setForm n o) s = result r)

/-- JP, JP cc, JP HL, JR, JR cc: target, both cycle counts, no flag, nothing else (R270, R271, R272, R273, R274, R275). -/
def Obligations.Jumps : Prop :=
  (∀ f : Byte, Cond.holds .nz f = !f.getLsbD 7 ∧ Cond.holds .z f = f.getLsbD 7 ∧ Cond.holds .nc f = !f.getLsbD 4 ∧
    Cond.holds .c f = f.getLsbD 4) ∧
  ∀ (s : State) (w : Word) (e : Byte),
    let goes (pc : Word) (n : Nat) := Host.Outcome.next (s.withCpu { s.cpu with pc := pc } n)
    let rel := BitVec.ofInt 16 ((s.cpu.pc.toNat : Int) + 2 + e.toInt)
    encode (.jpA16 w) = [0xC3, w.extractLsb' 0 8, w.extractLsb' 8 8] ∧ exec (.jpA16 w) s = goes w 16 ∧
    encode .jpHl = [0xE9] ∧ exec .jpHl s = goes (s.cpu.h ++ s.cpu.l) 4 ∧
    encode (.jrE8 e) = [0x18, e] ∧ exec (.jrE8 e) s = goes rel 12 ∧
    ∀ k : Cond,
      encode (Form.jpCond k w) = [opcodeOf 3 k.index 2, w.extractLsb' 0 8, w.extractLsb' 8 8] ∧
      exec (Form.jpCond k w) s = (if Cond.holds k s.cpu.f then goes w 16 else goes (s.cpu.pc + 3) 12) ∧
      encode (Form.jrCond k e) = [opcodeOf 0 (4 + k.index) 0, e] ∧
      exec (Form.jrCond k e) s = (if Cond.holds k s.cpu.f then goes rel 12 else goes (s.cpu.pc + 2) 8)

/-- CALL, CALL cc and RST: return address pushed high byte first, target, cycles (R276, R277, R281). -/
def Obligations.CallsAndRestarts : Prop :=
  ∀ (s : State) (w : Word),
    let pushed (ret pc : Word) (n : Nat) := Host.Outcome.next
      ((busWrite (busWrite s (s.cpu.sp - 1) (ret.extractLsb' 8 8)) (s.cpu.sp - 2) (ret.extractLsb' 0 8)).withCpu
        { s.cpu with sp := s.cpu.sp - 2, pc := pc } n)
    encode (.callA16 w) = [0xCD, w.extractLsb' 0 8, w.extractLsb' 8 8] ∧
    exec (.callA16 w) s = pushed (s.cpu.pc + 3) w 24 ∧
    (∀ k : Cond, encode (Form.callCond k w) = [opcodeOf 3 k.index 4, w.extractLsb' 0 8, w.extractLsb' 8 8] ∧
      exec (Form.callCond k w) s =
        if Cond.holds k s.cpu.f then pushed (s.cpu.pc + 3) w 24 else .next (s.withCpu { s.cpu with pc := s.cpu.pc + 3 } 12)) ∧
    ∀ y : Fin 8, encode (Form.rst y) = [opcodeOf 3 y.val 7] ∧
      exec (Form.rst y) s = pushed (s.cpu.pc + 1) (BitVec.ofNat 16 (8 * y.val)) 16

/-- RET, RET cc and RETI: PC from the stack, SP, IME for RETI only (R278, R279, R280). -/
def Obligations.Returns : Prop :=
  ∀ s : State,
    let back := busRead s (s.cpu.sp + 1) ++ busRead s s.cpu.sp
    encode .ret = [0xC9] ∧ encode .reti = [0xD9] ∧
    exec .ret s = .next (s.withCpu { s.cpu with sp := s.cpu.sp + 2, pc := back } 16) ∧
    exec .reti s = .next (s.withCpu { s.cpu with sp := s.cpu.sp + 2, pc := back, ime := true } 16) ∧
    ∀ k : Cond, encode (Form.retCond k) = [opcodeOf 3 k.index 0] ∧
      exec (Form.retCond k) s =
        if Cond.holds k s.cpu.f then .next (s.withCpu { s.cpu with sp := s.cpu.sp + 2, pc := back } 20)
        else .next (s.withCpu { s.cpu with pc := s.cpu.pc + 1 } 8)

/-- NOP, HALT, DI and EI: the control flag each writes, 4 cycles, nothing else (46_system.md R290, R291, R293, R294).
That DI clears ime_pending is the decision D2 of the spec (log 9). -/
def Obligations.NopHaltDiEi : Prop :=
  ∀ s : State,
    encode .nop = [0x00] ∧ encode .halt = [0x76] ∧ encode .di = [0xF3] ∧ encode .ei = [0xFB] ∧
    exec .nop s = .next (s.withCpu { s.cpu with pc := s.cpu.pc + 1 } 4) ∧
    exec .halt s = .next (s.withCpu { s.cpu with pc := s.cpu.pc + 1, halted := true } 4) ∧
    exec .di s = .next (s.withCpu { s.cpu with pc := s.cpu.pc + 1, ime := false, imePending := false } 4) ∧
    exec .ei s = .next (s.withCpu { s.cpu with pc := s.cpu.pc + 1, imePending := true } 4)

/-- Interrupt dispatch: the lowest pending enabled source, what is saved, what changes, where PC goes (60_exceptions.md
R320, R333, R334). That the order of the actions decides, and that the latch is cleared, are the decisions D34 and
D1 of the spec (log 9). -/
def Obligations.DispatchTakesLowestPending : Prop :=
  ∀ (s : State) (k : Irq), s.cpu.fault = none → s.cpu.stopped = false → s.cpu.ime = true →
    (s.ie &&& s.io.ifr).getLsbD k.bit = true → (∀ j, j < k.bit → (s.ie &&& s.io.ifr).getLsbD j = false) →
    ∃ f : Byte, (∀ j, j < 8 → f.getLsbD j = (s.io.ifr.getLsbD j && decide (j ≠ k.bit))) ∧
      let t := (busWrite (busWrite { s with io := { s.io with ifr := f } } (s.cpu.sp - 1)
        (s.cpu.pc.extractLsb' 8 8)) (s.cpu.sp - 2) (s.cpu.pc.extractLsb' 0 8)).withCpu
          { s.cpu with sp := s.cpu.sp - 2, pc := BitVec.ofNat 16 (0x40 + 8 * k.bit), ime := false, imePending := false, halted := false } 20
      cpuStep s = .next t ∧ step s = .next (timerStep 20 (ppuStep 20 t))

/-- A halted core with nothing pending and enabled stalls: 4 cycles, nothing else (R326). -/
def Obligations.HaltStallsUntilPending : Prop :=
  ∀ s : State, s.cpu.fault = none → s.cpu.stopped = false → s.cpu.halted = true → s.ie &&& s.io.ifr &&& 0x1F = 0 →
    cpuStep s = .next (s.withCpu s.cpu 4) ∧ step s = .next (timerStep 4 (ppuStep 4 (s.withCpu s.cpu 4)))

/-- With the EI latch set, the next instruction runs first and then IME is set, unless it is DI (60_exceptions.md R322,
R328, 46_system.md R294). The place where the latch is promoted is the decision D1 of the spec (log 9). -/
def Obligations.EiTakesEffectAfterNextInstruction : Prop :=
  (∀ (s : State) (i : Instr) (rest : List Byte), s.cpu.fault = none → s.cpu.stopped = false → s.cpu.halted = false →
    (s.cpu.ime = false ∨ s.ie &&& s.io.ifr &&& 0x1F = 0) → s.cpu.imePending = true →
    decode [busRead s s.cpu.pc, busRead s (s.cpu.pc + 1), busRead s (s.cpu.pc + 2)] = .ok (i, rest) → WellFormed i →
    ∃ t, cpuStep s = .next t ∧ t.cpu.imePending = false ∧ t.cpu.ime = decide (i ≠ .di)) ∧
  (∀ (s : State), s.cpu.fault = none → s.cpu.stopped = false → s.cpu.halted = false →
    (s.cpu.ime = false ∨ s.ie &&& s.io.ifr &&& 0x1F = 0) → s.cpu.imePending = false → busRead s s.cpu.pc = 0xFB →
    ∃ t, cpuStep s = .next t ∧ t.cpu.imePending = true ∧ t.cpu.ime = s.cpu.ime)

/-- Only DI and RETI write ime, only DI and EI the latch, only HALT and STOP their flags (46_system.md R291 to R294,
45_control_flow.md R280). -/
def Obligations.ControlFlagsChangeOnlyByTheirInstructions : Prop :=
  ∀ (i : Instr) (s t : State), exec i s = .next t →
    (t.cpu.ime ≠ s.cpu.ime → i = .di ∨ i = .reti) ∧
    (t.cpu.imePending ≠ s.cpu.imePending → i = .di ∨ i = .ei) ∧
    (t.cpu.halted ≠ s.cpu.halted → i = .halt) ∧
    (t.cpu.stopped ≠ s.cpu.stopped → ∃ n, i = .stop n) ∧
    t.cpu.fault = s.cpu.fault

/-- Of two stores to plain storage the later wins on one cell; on two cells their order does not matter (20_memory.md
R71, R72, R73, R74, R85, R88, R89, R94, R99, 95_test_vectors.md T4). The plain storage of I/O bytes is the decision
D8, and the bare store to TIMA and TAC the decision D15 of the spec (log 9). -/
def Obligations.PlainStoresLastWriteWins : Prop :=
  ∀ (s : State) (a b : Word) (v w : Byte), Inv s → plainStore s a = true → plainStore s b = true →
    let t := busWrite (busWrite s a v) b w
    if cellOf s a = cellOf s b then t = busWrite s b w
    else t = busWrite (busWrite s b w) a v ∧ busRead t a = v ∧ busRead t b = w

/-- Echo RAM is WRAM: reads agree, and a write to either is seen at both (R74). -/
def Obligations.EchoRamAliasesWram : Prop :=
  (∀ (s : State) (k : Nat) (v : Byte), k < 0x1E00 →
    let lo := BitVec.ofNat 16 (0xC000 + k)
    let hi := BitVec.ofNat 16 (0xE000 + k)
    busRead s hi = busRead s lo ∧ busWrite s hi v = busWrite s lo v ∧
    busRead (busWrite s lo v) lo = v ∧ busRead (busWrite s lo v) hi = v) ∧
  (∀ (s : State) (a : Word) (i : Nat), cellOf s a = .wram i → 0x1E00 ≤ i → 0xDE00 ≤ a.toNat ∧ a.toNat < 0xE000)

/-- Dropped writes, to the unusable range, LY, absent RAM and ROM; what a cartridge without a controller shows in its
windows (20_memory.md R71, R72, R73, R92, R100, R102, R116, R118, R122, R125). That the MBC3 selects 4 to 7 and 13
to 15 show no RAM is the decision D20, and the address modulo a RAM smaller than its window the decision D22 of the
spec (log 9); the high window of a cartridge without a controller is derived by the spec in R118. -/
def Obligations.DroppedWrites : Prop :=
  ∀ (s : State) (a : Word) (v : Byte),
    (0xFEA0 ≤ a.toNat → a.toNat < 0xFF00 → busWrite s a v = s ∧ busRead s a = 0xFF) ∧
    (a = 0xFF44 → busWrite s a v = s) ∧
    (0xA000 ≤ a.toNat → a.toNat < 0xC000 → xramIndex s.cart (a.toNat - 0xA000) = none →
      busWrite s a v = s ∧ busRead s a = 0xFF) ∧
    (a.toNat < 0x8000 → s.cart.mbc = .noMbc → busWrite s a v = s ∧ busRead s a = romAt s.cart a.toNat) ∧
    (0xA000 ≤ a.toNat → a.toNat < 0xC000 → s.cart.mbc = .noMbc →
      if s.cart.ramSize.bytes ≠ 0 then cellOf s a = .xram ((a.toNat - 0xA000) % s.cart.ramSize.bytes)
      else busWrite s a v = s ∧ busRead s a = 0xFF)

/-- DIV write clears DIV and its accumulator; STAT keeps bits 7 and 2:0; unhooked registers store the byte (20_memory.md
R87, R88, R89, R91, R94). The STAT mask, the plain storage of unhooked bytes and the bare store to TIMA and TAC are
the decisions D11, D8 and D15 of the spec (log 9). -/
def Obligations.IoWriteHooks : Prop :=
  ∀ (s : State) (v : Byte),
    busWrite s 0xFF04 v = { s with io := { s.io with div := 0 }, timer := { s.timer with divAcc := 0 } } ∧
    (∃ w : Byte, (∀ i, i < 8 → w.getLsbD i = if 3 ≤ i ∧ i ≤ 6 then v.getLsbD i else s.io.stat.getLsbD i) ∧
      busWrite s 0xFF41 v = { s with io := { s.io with stat := w } }) ∧
    ∀ off, off < 0x80 → off ∉ [0x00, 0x04, 0x40, 0x41, 0x44, 0x46] →
      ∃ io : IoFile, busWrite s (BitVec.ofNat 16 (0xFF00 + off)) v = { s with io := io } ∧
        ∀ q, io.get q = if q = off then v else s.io.get q

/-- A write of v to 0xFF46 copies the 160 bytes at v * 256 into OAM, atomically (20_memory.md R95). That every page is
legal and DMA reads back is the decision D29 of the spec (log 9). -/
def Obligations.DmaCopiesPageToOam : Prop :=
  ∀ (s : State) (v : Byte),
    let t := busWrite s 0xFF46 v
    t = { s with io := { s.io with dma := v }, oam := t.oam } ∧
    ∀ i, i < 160 → oamAt t i =
      busRead { s with io := { s.io with dma := v } } (BitVec.ofNat 16 (v.toNat * 256 + i))

/-- No instruction changes a byte of memory other than those it stores to (20_memory.md R72, R73, R99, R103, 40_load8.md
R189, 47_cb_prefixed.md R300). -/
def Obligations.MemoryFrame : Prop :=
  ∀ (i : Instr) (s t : State), exec i s = .next t → (∀ a ∈ storeAddrs i s, plainStore s a = true) →
    ∀ b, (∀ a ∈ storeAddrs i s, cellOf s b ≠ cellOf s a) → busRead t b = busRead s b

/-- MBC1: control writes by range, both ROM windows, the RAM window (20_memory.md R116, R119, R120, R121, R122). That
the RAM bank is high in mode 1 only is the decision D19, and the address modulo the RAM size the decision D22 of the
spec (log 9). -/
def Obligations.Mbc1Banking : Prop :=
  ∀ (s : State) (r : Mbc1), s.cart.mbc = .mbc1 r →
    (∀ (a : Word) (v : Byte), a.toNat < 0x8000 → ∃ q : Mbc1,
      busWrite s a v = { s with cart := { s.cart with mbc := .mbc1 q } } ∧
      q.ramEnable = (if a.toNat < 0x2000 then decide (v.toNat % 16 = 0xA) else r.ramEnable) ∧
      q.romLow.toNat = (if 0x2000 ≤ a.toNat ∧ a.toNat < 0x4000 then (if v.toNat % 32 = 0 then 1 else v.toNat % 32)
        else r.romLow.toNat) ∧
      q.high.toNat = (if 0x4000 ≤ a.toNat ∧ a.toNat < 0x6000 then v.toNat % 4 else r.high.toNat) ∧
      q.mode = (if 0x6000 ≤ a.toNat then decide (v.toNat % 2 = 1) else r.mode)) ∧
    (∀ off, off < 0x4000 →
      busRead s (BitVec.ofNat 16 off) =
        romAt s.cart ((if r.mode then r.high.toNat * 32 else 0) % s.cart.romSize.banks * 0x4000 + off) ∧
      busRead s (BitVec.ofNat 16 (0x4000 + off)) =
        romAt s.cart ((r.high.toNat * 32 + r.romLow.toNat) % s.cart.romSize.banks * 0x4000 + off)) ∧
    (∀ (off : Nat) (v : Byte), off < 0x2000 →
      let a := BitVec.ofNat 16 (0xA000 + off)
      if r.ramEnable = true ∧ s.cart.ramSize.bytes ≠ 0 then
        cellOf s a = .xram (((if r.mode then r.high.toNat else 0) % s.cart.ramSize.banks * 0x2000 + off) % s.cart.ramSize.bytes)
      else busRead s a = 0xFF ∧ busWrite s a v = s)

/-- MBC3: control writes by range, both ROM windows, the RAM window (20_memory.md R116, R123, R124, R125). The enabling
nibble, the width of ram_sel and its unlisted selects are the decision D20, and the address modulo the RAM size the
decision D22 of the spec (log 9). -/
def Obligations.Mbc3Banking : Prop :=
  ∀ (s : State) (r : Mbc3), s.cart.mbc = .mbc3 r →
    (∀ (a : Word) (v : Byte), a.toNat < 0x8000 → ∃ q : Mbc3,
      busWrite s a v = { s with cart := { s.cart with mbc := .mbc3 q } } ∧
      q.ramEnable = (if a.toNat < 0x2000 then decide (v.toNat % 16 = 0xA) else r.ramEnable) ∧
      q.romBank.toNat = (if 0x2000 ≤ a.toNat ∧ a.toNat < 0x4000 then (if v.toNat % 128 = 0 then 1 else v.toNat % 128)
        else r.romBank.toNat) ∧
      q.ramSel.toNat = (if 0x4000 ≤ a.toNat ∧ a.toNat < 0x6000 then v.toNat % 16 else r.ramSel.toNat)) ∧
    (∀ off, off < 0x4000 →
      busRead s (BitVec.ofNat 16 off) = romAt s.cart off ∧
      busRead s (BitVec.ofNat 16 (0x4000 + off)) =
        romAt s.cart (r.romBank.toNat % s.cart.romSize.banks * 0x4000 + off)) ∧
    (∀ (off : Nat) (v : Byte), off < 0x2000 →
      let a := BitVec.ofNat 16 (0xA000 + off)
      if r.ramEnable = true ∧ s.cart.ramSize.bytes ≠ 0 ∧ r.ramSel.toNat < 4 then
        cellOf s a = .xram ((r.ramSel.toNat % s.cart.ramSize.banks * 0x2000 + off) % s.cart.ramSize.bytes)
      else busRead s a = 0xFF ∧ busWrite s a v = s)

/-- No step changes the ROM image, the header invariants or the kind of controller; nor does reset (20_memory.md R73,
R106, 10_state.md R52, 70_reset_and_hazards.md R450, R469). -/
def Obligations.RomAndHeaderNeverChange : Prop :=
  ∀ s : State,
    let same (t : State) := t.cart.rom = s.cart.rom ∧ t.cart.title = s.cart.title ∧ t.cart.romSize = s.cart.romSize ∧
      t.cart.ramSize = s.cart.ramSize ∧ t.cart.mbc.reset = s.cart.mbc.reset
    same (resetMachine s) ∧ ∀ t, step s = .next t → same t

/-- DIV advances once per 256 cycles over any run of timer steps; what the timer touches (60_exceptions.md R350, R351,
R353). R353 is derived by the spec from R350. -/
def Obligations.DivCountsCycles : Prop :=
  (∀ (cs : List Nat) (s : State), s.timer.divAcc < 256 →
    let t := cs.foldl (fun u c => timerStep c u) s
    t.timer.divAcc = (s.timer.divAcc + cs.sum) % 256 ∧
    t.io.div = s.io.div + BitVec.ofNat 8 ((s.timer.divAcc + cs.sum) / 256)) ∧
  (∀ (c : Nat) (s : State),
    let t := timerStep c s
    t = { s with io := { s.io with div := t.io.div, tima := t.io.tima, ifr := t.io.ifr }, timer := t.timer } ∧
    (∀ i, i ≠ 2 → t.io.ifr.getLsbD i = s.io.ifr.getLsbD i) ∧ t.timer.divAcc < 256 ∧
    (s.io.tac.getLsbD 2 = true → t.timer.timaAcc < timaPeriod s.io.tac))

/-- TIMA increments once per period while TAC bit 2 is set, any number of times in a step; from 0xFF it reloads TMA and
requests (60_exceptions.md R350, R352). That tima_acc keeps its value while TIMA is off is the decision D15 of the
spec (log 9). -/
def Obligations.TimaCountsAndOverflows : Prop :=
  ∀ (s : State) (c n : Nat),
    let t := timerStep c s
    let period := [1024, 16, 64, 256].getD (s.io.tac.toNat % 4) 0
    let tick (p : Byte × Bool) : Byte × Bool := if p.1 = 0xFF then (s.io.tma, true) else (p.1 + 1, p.2)
    let ticked := Nat.repeat tick n (s.io.tima, s.io.ifr.getLsbD 2)
    (s.io.tac.getLsbD 2 = false → t.io.tima = s.io.tima ∧ t.io.ifr = s.io.ifr ∧ t.timer.timaAcc = s.timer.timaAcc) ∧
    (s.io.tac.getLsbD 2 = true → n * period ≤ s.timer.timaAcc + c → s.timer.timaAcc + c < (n + 1) * period →
      t.timer.timaAcc + n * period = s.timer.timaAcc + c ∧ t.io.tima = ticked.1 ∧
      ∀ i, i < 8 → t.io.ifr.getLsbD i = if i = 2 then ticked.2 else s.io.ifr.getLsbD i)

/-- SetButton and P1 writes: the matrix, the request on a falling bit, nothing else (20_memory.md R86, 60_exceptions.md
R361, R362, R392). That SetButton acts at once is the decision D17 of the spec (log 9); the last clause is derived
by the spec in R392, and that SetButton runs the update even without a change is log 24 (DEDUCED). -/
def Obligations.JoypadUpdateAndInterrupt : Prop :=
  let p1Is (p : Byte) (k : Buttons) (s5 s4 : Bool) : Prop :=
    p.getLsbD 7 = true ∧ p.getLsbD 6 = true ∧ p.getLsbD 5 = s5 ∧ p.getLsbD 4 = s4 ∧
    p.getLsbD 3 = !((!s5 && k.start) || (!s4 && k.down)) ∧ p.getLsbD 2 = !((!s5 && k.select) || (!s4 && k.up)) ∧
    p.getLsbD 1 = !((!s5 && k.b) || (!s4 && k.left)) ∧ p.getLsbD 0 = !((!s5 && k.a) || (!s4 && k.right))
  let updated (s t : State) (k : Buttons) : Prop :=
    (∀ i, i < 8 → t.io.ifr.getLsbD i = (s.io.ifr.getLsbD i ||
      (i == 4 && (List.range 4).any (fun j => s.io.p1.getLsbD j && !t.io.p1.getLsbD j)))) ∧
    t = { s with io := { s.io with p1 := t.io.p1, ifr := t.io.ifr }, joypad := ⟨k, k⟩ }
  (∀ (s : State) (key : Button) (pressed : Bool),
    let k := s.joypad.btn.set key pressed
    p1Is (setButton key pressed s).io.p1 k (s.io.p1.getLsbD 5) (s.io.p1.getLsbD 4) ∧
    updated s (setButton key pressed s) k) ∧
  (∀ (s : State) (v : Byte),
    p1Is (busWrite s 0xFF00 v).io.p1 s.joypad.btn (v.getLsbD 5) (v.getLsbD 4) ∧
    updated s (busWrite s 0xFF00 v) s.joypad.btn) ∧
  (∀ (s : State) (key : Button), p1Is s.io.p1 s.joypad.btn (s.io.p1.getLsbD 5) (s.io.p1.getLsbD 4) →
    (setButton key (s.joypad.btn.get key) s).io = s.io) ∧
  (∀ (k : Buttons) (key : Button) (pressed : Bool), (k.set key pressed).get key = pressed ∧
    ∀ other, other ≠ key → (k.set key pressed).get other = k.get other) ∧
  (∀ k : Buttons, [Button.right, .left, .up, .down, .a, .b, .select, .start].map k.get =
    [k.right, k.left, k.up, k.down, k.a, k.b, k.select, k.start])

/-- While the LCD is on, the PPU's place in its frame advances by exactly the cycles given, mod 70224 (60_exceptions.md
R370, R371, R377). -/
def Obligations.FramePositionAdvancesByCycles : Prop :=
  ∀ (s : State) (c : Nat), PpuPlaced s.ppu → s.io.lcdc.getLsbD 7 = true →
    framePosition (ppuStep c s).ppu = (framePosition s.ppu + c) % 70224 ∧ PpuPlaced (ppuStep c s).ppu

/-- VBlank is requested and frame_ready set exactly when the PPU reaches cycle 65664 of its frame (R374). -/
def Obligations.VBlankAtLine144 : Prop :=
  ∀ (s : State) (c : Nat), PpuPlaced s.ppu → s.io.lcdc.getLsbD 7 = true → c ≤ 24 →
    let t := ppuStep c s
    if framePosition s.ppu < 65664 ∧ 65664 ≤ framePosition s.ppu + c then
      t.ppu.line = 144 ∧ t.io.ly = 144 ∧ t.ppu.mode = .vBlank ∧ t.io.ifr.getLsbD 0 = true ∧ t.ppu.frameReady = true
    else t.io.ifr.getLsbD 0 = s.io.ifr.getLsbD 0 ∧ t.ppu.frameReady = s.ppu.frameReady

/-- STAT requests: the LYC check with its bit and latch, the entry of a mode, and the two together in a transition of
the PPU (60_exceptions.md R373, R374, R375, R376). That the latch is set whether or not STAT bit 6 is set is the
decision D14 of the spec (log 9). -/
def Obligations.LycCheckAndLatch : Prop :=
  (∀ (s : State) (n : Nat),
    let t := setLine n s
    let hit := decide (BitVec.ofNat 8 n = s.io.lyc)
    t.io.ly = BitVec.ofNat 8 n ∧ t.ppu.line = n ∧ t.ppu.lycLatch = hit ∧
    (∀ i, i < 8 → t.io.stat.getLsbD i = if i = 2 then hit else s.io.stat.getLsbD i) ∧
    (∀ i, i < 8 → t.io.ifr.getLsbD i =
      (s.io.ifr.getLsbD i || (i == 1 && hit && !s.ppu.lycLatch && s.io.stat.getLsbD 6))) ∧
    t = { s with io := { s.io with ly := t.io.ly, stat := t.io.stat, ifr := t.io.ifr },
                 ppu := { s.ppu with line := n, lycLatch := t.ppu.lycLatch } }) ∧
  (∀ (s : State) (m : PpuMode) (number : Nat) (enabled : Bool),
    (m, number, enabled) ∈ [(PpuMode.hBlank, 0, s.io.stat.getLsbD 3), (PpuMode.vBlank, 1, s.io.stat.getLsbD 4),
      (PpuMode.oamScan, 2, s.io.stat.getLsbD 5), (PpuMode.drawing, 3, false)] →
    let t := enterMode m s
    (∀ i, i < 8 → t.io.stat.getLsbD i = if i < 2 then number.testBit i else s.io.stat.getLsbD i) ∧
    (∀ i, i < 8 → t.io.ifr.getLsbD i = (s.io.ifr.getLsbD i || (i == 1 && enabled))) ∧
    t = { s with io := { s.io with stat := t.io.stat, ifr := t.io.ifr }, ppu := { s.ppu with mode := m } }) ∧
  (∀ s : State,
    let newHit (n : Nat) := decide (BitVec.ofNat 8 n = s.io.lyc) && !s.ppu.lycLatch && s.io.stat.getLsbD 6
    (ppuTransition s).io.ifr.getLsbD 1 = (s.io.ifr.getLsbD 1 ||
      match s.ppu.mode with
      | .oamScan => false
      | .drawing => s.io.stat.getLsbD 3
      | .hBlank => newHit (s.ppu.line + 1) || s.io.stat.getLsbD (if s.ppu.line = 143 then 4 else 5)
      | .vBlank => if s.ppu.line < 153 then newHit (s.ppu.line + 1) else newHit 0 || s.io.stat.getLsbD 5))

/-- Clearing LCDC bit 7 resets line, mode and accumulator at once; while off the PPU does nothing (20_memory.md R90,
60_exceptions.md R372). The details of LCD off are the decision D13 of the spec (log 9). -/
def Obligations.LcdOffResetsPosition : Prop :=
  ∀ (s : State) (v : Byte),
    let t := busWrite s 0xFF40 v
    if v.getLsbD 7 = true then t = { s with io := { s.io with lcdc := v } }
    else
      (∀ c, ppuStep c t = t) ∧
      if s.ppu.line = 0 ∧ s.ppu.mode = .oamScan ∧ s.ppu.acc = 0 then t = { s with io := { s.io with lcdc := v } }
      else ∃ w : Byte, (∀ i, i < 8 → w.getLsbD i = if i = 1 then true else if i = 0 then false else s.io.stat.getLsbD i) ∧
        t = { s with io := { s.io with lcdc := v, ly := 0, stat := w },
                     ppu := { s.ppu with line := 0, mode := .oamScan, acc := 0 } }

/-- A line considers the first ten sprites on it, in OAM order, and draws them by x, then index (R382, R383). -/
def Obligations.SpriteSelectionAndOrder : Prop :=
  ∀ (s : State) (ly : Nat),
    let h := if s.io.lcdc.getLsbD 2 then 16 else 8
    spriteCandidates s ly =
      (((List.range 40).filter (fun i => decide ((oamAt s (4 * i)).toNat ≤ ly + 16 ∧
        ly + 16 < (oamAt s (4 * i)).toNat + h))).take 10).map (spriteAt s) ∧
    (spriteCandidates s ly).length ≤ 10 ∧
    (spriteOrder (spriteCandidates s ly)).Perm (spriteCandidates s ly) ∧
    (spriteOrder (spriteCandidates s ly)).Pairwise
      (fun p q => p.x.toNat < q.x.toNat ∨ (p.x = q.x ∧ p.index < q.index))

/-- At each column the first sprite of the order that shows a pixel there wins; the index buffer is kept
(60_exceptions.md R381, R383, R384). -/
def Obligations.SpritePixelWinner : Prop :=
  ∀ (s : State) (ly : Nat) (row : List Pixel) (x : Nat), row.length = 160 → x < 160 →
    ((spritePass s ly row).getD x default).bgi = (row.getD x default).bgi ∧
    ((spritePass s ly row).getD x default).shade =
      (if s.io.lcdc.getLsbD 1 then
        ((spriteOrder (spriteCandidates s ly)).findSome? (spriteShade s ly row x)).getD (row.getD x default).shade
      else (row.getD x default).shade)

/-- Each pixel before sprites is the one its rule names; the PPU renders and stores the line at the end of mode 3; the
framebuffer is its bytes (60_exceptions.md R370, R371, R378, R379, R380, 10_state.md R57, R58). That LCDC bit 0 does
not hide the window is the decision D25, the 8-bit counter the decision D36 of the spec (log 9); that FB holds
shades, through the free palette, is D30 (log 4); that a pixel of a line not rendered since reset is one of the four
palette colours, through Config.fbInit, is log 5 (DESIGN CHOICE, unsafe). -/
def Obligations.BackgroundAndWindowPixels : Prop :=
  (∀ (s : State) (ly x : Nat), x < 160 → ly < 144 →
    let shown (idx : BitVec 2) : Pixel := ⟨idx, BitVec.ofNat 2 (s.io.bgp.toNat / 4 ^ idx.toNat)⟩
    let window := s.io.lcdc.getLsbD 5 = true ∧ s.io.wy.toNat ≤ ly
    (windowPass s ly (backgroundPass s ly)).getD x default =
      (if window ∧ s.io.wx.toNat ≤ x + 7 then
        shown (mapIndexAt s (if s.io.lcdc.getLsbD 6 then 0x9C00 else 0x9800) (x + 7 - s.io.wx.toNat) s.ppu.winLine.toNat)
      else if s.io.lcdc.getLsbD 0 = true then
        shown (mapIndexAt s (if s.io.lcdc.getLsbD 3 then 0x9C00 else 0x9800) ((x + s.io.scx.toNat) % 256)
          ((ly + s.io.scy.toNat) % 256))
      else shown 0) ∧
    let t := renderLine s ly
    t.ppu.winLine = (if window ∧ s.io.wx.toNat < 167 then s.ppu.winLine + 1 else s.ppu.winLine) ∧
    (let p := (spritePass s ly (windowPass s ly (backgroundPass s ly))).getD x default
      ∀ y, shadeAt t y x = (if y = ly then p.shade else shadeAt s y x) ∧
        bgiAt t y x = (if y = ly then p.bgi else bgiAt s y x)) ∧
    t = { s with ppu := { s.ppu with fb := t.ppu.fb, bgi := t.ppu.bgi, winLine := t.ppu.winLine } } ∧
    (let colour := Config.dmgPalette (shadeAt s ly x)
      let n := (ly * 160 + x) * 4
      (framebufferBytes s).length = 92160 ∧ (framebufferBytes s)[n]? = some colour.r ∧
      (framebufferBytes s)[n + 1]? = some colour.g ∧ (framebufferBytes s)[n + 2]? = some colour.b ∧
      (framebufferBytes s)[n + 3]? = some colour.a)) ∧
  (∀ s : State,
    (s.ppu.mode = .drawing → ppuTransition s =
      enterMode .hBlank (renderLine { s with ppu := { s.ppu with acc := s.ppu.acc - 172 } } s.ppu.line)) ∧
    (s.ppu.mode ≠ .drawing →
      (ppuTransition s).ppu.fb = s.ppu.fb ∧ (ppuTransition s).ppu.bgi = s.ppu.bgi ∧
      (ppuTransition s).ppu.winLine = if s.ppu.mode = .vBlank ∧ 153 ≤ s.ppu.line then 0 else s.ppu.winLine)) ∧
  (∀ (s : State) (c : Nat), s.io.lcdc.getLsbD 7 = true →
    let t := { s with ppu := { s.ppu with acc := s.ppu.acc + c } }
    let duration := match s.ppu.mode with | .oamScan => 80 | .drawing => 172 | .hBlank => 204 | .vBlank => 456
    ppuStep c s = if s.ppu.acc + c < duration then t else ppuStep 0 (ppuTransition t))

/-- Reset: every CPU register and flag, every listed I/O register, IE, the devices and controllers (10_state.md R30,
R53, R54, R56, R60, R61, R62, R63). The control flags, IE, the PPU, the accumulators, the buttons, the frame total
and the controllers have their values by the decisions D3, D12, D16, D17, D24, D26 and D32 of the spec (log 9, log
21). -/
def Obligations.ResetValues : Prop :=
  ∀ s : State,
    let t := resetMachine s
    t.cpu = { a := 0x01, f := 0xB0, b := 0x00, c := 0x13, d := 0x00, e := 0xD8, h := 0x01, l := 0x4D, sp := 0xFFFE,
              pc := 0x0100, halted := false, stopped := false, ime := false, imePending := false, fault := none } ∧
    t.io.p1 = 0xCF ∧ t.io.sc = 0x7E ∧ t.io.div = 0xAB ∧ t.io.tac = 0xF8 ∧ t.io.ifr = 0xE1 ∧ t.io.lcdc = 0x91 ∧
    t.io.stat = 0x85 ∧ t.io.bgp = 0xFC ∧ t.io.ly = 0x00 ∧ t.ie = 0x00 ∧
    t.ppu.mode = .oamScan ∧ t.ppu.line = 0 ∧ t.ppu.acc = 0 ∧ t.ppu.winLine = 0 ∧ t.ppu.lycLatch = false ∧
    t.ppu.frameReady = false ∧ t.timer = ⟨0, 0⟩ ∧ t.joypad = ⟨Buttons.released, Buttons.released⟩ ∧ t.frameTotal = 0 ∧
    (∀ r, s.cart.mbc = .mbc1 r → t.cart.mbc = .mbc1 ⟨false, 1, 0, false⟩) ∧
    (∀ r, s.cart.mbc = .mbc3 r → t.cart.mbc = .mbc3 ⟨false, 1, 0⟩) ∧
    State.reset.cpu = t.cpu

/-- Every step keeps the machine's invariant (10_state.md R22, R43, R53, R54, R57, 60_exceptions.md R353, R361, R371,
R372, R375). -/
def Obligations.StepKeepsInvariant : Prop :=
  ∀ s t : State, Inv s → step s = .next t → Inv t

/-- The invariant holds at reset (10_state.md R30, R63). -/
def Obligations.ResetSatisfiesInvariant : Prop :=
  Inv State.reset

/-- STAT bits 1:0 equal the PPU's mode: kept by every step, and established by the first mode change (20_memory.md R91,
60_exceptions.md R372, R373, R377, 90_conflicts.md C4). That a CPU write to STAT keeps bits 1:0 is the decision D11,
and that LCD off writes the mode bits the decision D13 of the spec (log 9). -/
def Obligations.StatModeBitsFollowMode : Prop :=
  ∀ s t : State, step s = .next t → StatAgrees s ∨ t.ppu.mode ≠ s.ppu.mode → StatAgrees t

/-- A loaded cartridge: its first 32 KiB are what the bus reads at reset; exactly the files with a bad length or header
byte are refused (20_memory.md R110 to R114, R118, R120, R121, R124, 70_reset_and_hazards.md R451). The refusals are
the decisions D21 and D23 of the spec, and the controller registers at reset the decision D24 (log 9); that an
unsupported controller is reported whatever the other defects is the model's choice (log 15, DESIGN CHOICE). -/
def Obligations.LoadedImageIsRead : Prop :=
  (∀ (file : List Byte) (epoch : Nat) (s : State), loadMachine file epoch = .ok s →
    (∀ a : Word, a.toNat < 0x8000 → busRead s a = file.getD a.toNat 0) ∧
    s.cart.romSize.banks * 0x4000 ≤ file.length ∧ s.cpu.pc = 0x0100) ∧
  (∀ (file : List Byte) (epoch : Nat), file.length < 0x150 → loadMachine file epoch = .error .romTooShort) ∧
  (∀ (file : List Byte) (epoch : Nat), 0x150 ≤ file.length →
    file.getD 0x147 0 ∉ [0x00#8, 0x01#8, 0x02#8, 0x03#8, 0x11#8, 0x12#8, 0x13#8] →
    loadMachine file epoch = .error (.unsupportedMbc (file.getD 0x147 0))) ∧
  (∀ (file : List Byte) (epoch : Nat), 6 < (file.getD 0x148 0).toNat ∨ 5 < (file.getD 0x149 0).toNat →
    ∀ s, loadMachine file epoch ≠ .ok s) ∧
  (∀ (file : List Byte) (epoch : Nat), 0x150 ≤ file.length →
    file.getD 0x147 0 ∈ [0x00#8, 0x01#8, 0x02#8, 0x03#8, 0x11#8, 0x12#8, 0x13#8] →
    (file.getD 0x148 0).toNat ≤ 6 → (file.getD 0x149 0).toNat ≤ 5 →
    if file.length < 2 ^ ((file.getD 0x148 0).toNat + 1) * 0x4000 then loadMachine file epoch = .error .romTooShort
    else ∃ s, loadMachine file epoch = .ok s ∧ s.cart.romSize.banks = 2 ^ ((file.getD 0x148 0).toNat + 1) ∧
      s.cart.ramSize.bytes = [0, 2048, 8192, 32768, 131072, 65536].getD (file.getD 0x149 0).toNat 0)

/-- RunFrame takes machine steps until frame_total reaches 70224 and keeps the overshoot; a fault or refusal ends it
(60_exceptions.md R391, 10_state.md R62). That the overshoot is kept is the decision D26 of the spec (log 9); that
the state a fault leaves is afterFault is log 10 and log 25. -/
def Obligations.RunFrameAccumulatesCycles : Prop :=
  ∀ s : State,
    (70224 ≤ s.frameTotal → runFrame s = .done { s with frameTotal := s.frameTotal - 70224 }) ∧
    (s.frameTotal < 70224 →
      (∀ t, step s = .next t → runFrame s = runFrame { t with frameTotal := s.frameTotal + t.cycles }) ∧
      (∀ op pc, step s = .fault (.illegalOpcode op pc) → runFrame s = .fault (s.afterFault op pc) ⟨op, pc⟩) ∧
      (∀ r, step s = .refused r → runFrame s = .refused s r) ∧
      (∀ t, runFrame s = .done t → t.frameTotal < 24 ∧ (s.frameTotal % 4 = 0 → t.frameTotal ≤ 20)))
end

