-- ==== Sys2Proof/Laws/Memory.lean ====
section
/-! SUPPORT. Laws of sparse data: a read after a write, and the canonical form. -/

namespace Sys2Proof.Machine

variable {α : Type}

@[simp] theorem Store.get?_nil (i : Nat) : Store.get? ([] : Store α) i = none := rfl

/-- A read of the index just written gives the value written. -/
@[simp] theorem Store.get?_put_same (m : Store α) (i : Nat) (v : α) : Store.get? (Store.put m i v) i = some v := by
  induction m with
  | nil => simp [Store.put, Store.get?]
  | cons e m ih =>
    obtain ⟨k, w⟩ := e
    simp only [Store.put]
    split
    · simp [Store.get?]
    · split
      · simp [Store.get?]
      · next h1 h2 => simp [Store.get?, ih, Ne.symm h2]

/-- A write leaves every other index alone. -/
theorem Store.get?_put_other (m : Store α) {i j : Nat} (v : α) (h : j ≠ i) :
    Store.get? (Store.put m i v) j = Store.get? m j := by
  induction m with
  | nil => simp [Store.put, Store.get?, Ne.symm h]
  | cons e m ih =>
    obtain ⟨k, w⟩ := e
    simp only [Store.put]
    split
    · simp [Store.get?, Ne.symm h]
    · split
      · next h1 h2 =>
        subst h2
        simp [Store.get?, Ne.symm h]
      · simp [Store.get?, ih]

theorem Store.get?_put (m : Store α) (i j : Nat) (v : α) :
    Store.get? (Store.put m i v) j = if j = i then some v else Store.get? m j := by
  split
  · next h => subst h; simp
  · next h => exact Store.get?_put_other m v h

/-- What a write can put in the list: the new entry, or an old one. -/
theorem Store.mem_put {m : Store α} {i : Nat} {v : α} {e : Nat × α} (h : e ∈ Store.put m i v) : e = (i, v) ∨ e ∈ m := by
  induction m with
  | nil => simpa [Store.put] using h
  | cons x m ih =>
    obtain ⟨k, w⟩ := x
    simp only [Store.put] at h
    split at h
    · simpa using h
    · split at h
      · simp only [List.mem_cons] at h ⊢
        tauto
      · simp only [List.mem_cons] at h ⊢
        rcases h with h | h
        · exact .inr (.inl h)
        · rcases ih h with h | h
          · exact .inl h
          · exact .inr (.inr h)

/-- A write keeps the canonical form. -/
theorem Store.put_wf {m : Store α} (i : Nat) (v : α) (h : Store.wf m) : Store.wf (Store.put m i v) := by
  induction m with
  | nil => simp [Store.put, Store.wf]
  | cons e m ih =>
    obtain ⟨k, w⟩ := e
    simp only [Store.wf, List.pairwise_cons] at h ih
    simp only [Store.put]
    split
    · next hk =>
      simp only [Store.wf, List.pairwise_cons, List.mem_cons]
      exact ⟨by rintro x (rfl | hx); exacts [hk, lt_trans hk (h.1 x hx)], h⟩
    · split
      · next hk =>
        subst hk
        exact List.pairwise_cons.mpr h
      · next h1 h2 =>
        refine List.pairwise_cons.mpr ⟨fun x hx => ?_, ih h.2⟩
        rcases Store.mem_put hx with rfl | hx
        · simp only; omega
        · exact h.1 x hx

/-- The later of two writes to one index wins. -/
theorem Store.put_put_same (m : Store α) (i : Nat) (v w : α) : Store.put (Store.put m i v) i w = Store.put m i w := by
  induction m with
  | nil => simp [Store.put]
  | cons e m ih =>
    obtain ⟨k, x⟩ := e
    simp only [Store.put]
    split_ifs with h1 h2
    · simp [Store.put]
    · simp [Store.put]
    · simp [Store.put, h1, h2, ih]

/-- An index below every listed one is not listed. -/
theorem Store.get?_of_lt (m : Store α) (k : Nat) (h : ∀ e ∈ m, k < e.1) : Store.get? m k = none := by
  induction m with
  | nil => rfl
  | cons e m ih =>
    simp only [Store.get?]
    rw [if_neg (by have := h e (by simp); omega)]
    exact ih (fun e he => h e (by simp [he]))

theorem Memory.byteAt_put (m : Memory) (free v : Byte) (i j : Nat) :
    Memory.byteAt (Store.put m i v) free j = if j = i then v else Memory.byteAt m free j := by
  simp only [Memory.byteAt, Store.get?_put]
  split <;> rfl

end Sys2Proof.Machine
end

