-- ==== Sys2Proof/Laws/State.lean ====
section
/-! SUPPORT. One lemma per field per update of State, of the CPU and of the I/O file. -/

namespace Sys2Proof.Machine

/-! `State.advance` -/

@[simp] theorem State.advance_cpu (s : State) (n : Nat) : (s.advance n).cpu = { s.cpu with pc := s.cpu.pc + BitVec.ofNat 16 n } := rfl
@[simp] theorem State.advance_vram (s : State) (n : Nat) : (s.advance n).vram = s.vram := rfl
@[simp] theorem State.advance_wram (s : State) (n : Nat) : (s.advance n).wram = s.wram := rfl
@[simp] theorem State.advance_oam (s : State) (n : Nat) : (s.advance n).oam = s.oam := rfl
@[simp] theorem State.advance_hram (s : State) (n : Nat) : (s.advance n).hram = s.hram := rfl
@[simp] theorem State.advance_io (s : State) (n : Nat) : (s.advance n).io = s.io := rfl
@[simp] theorem State.advance_ie (s : State) (n : Nat) : (s.advance n).ie = s.ie := rfl
@[simp] theorem State.advance_cart (s : State) (n : Nat) : (s.advance n).cart = s.cart := rfl
@[simp] theorem State.advance_ppu (s : State) (n : Nat) : (s.advance n).ppu = s.ppu := rfl
@[simp] theorem State.advance_timer (s : State) (n : Nat) : (s.advance n).timer = s.timer := rfl
@[simp] theorem State.advance_joypad (s : State) (n : Nat) : (s.advance n).joypad = s.joypad := rfl
@[simp] theorem State.advance_frameTotal (s : State) (n : Nat) : (s.advance n).frameTotal = s.frameTotal := rfl
@[simp] theorem State.advance_cycles (s : State) (n : Nat) : (s.advance n).cycles = s.cycles := rfl
@[simp] theorem State.advance_epoch (s : State) (n : Nat) : (s.advance n).epoch = s.epoch := rfl

/-! `State.jump` -/

@[simp] theorem State.jump_cpu (s : State) (a : Word) : (s.jump a).cpu = { s.cpu with pc := a } := rfl
@[simp] theorem State.jump_vram (s : State) (a : Word) : (s.jump a).vram = s.vram := rfl
@[simp] theorem State.jump_wram (s : State) (a : Word) : (s.jump a).wram = s.wram := rfl
@[simp] theorem State.jump_oam (s : State) (a : Word) : (s.jump a).oam = s.oam := rfl
@[simp] theorem State.jump_hram (s : State) (a : Word) : (s.jump a).hram = s.hram := rfl
@[simp] theorem State.jump_io (s : State) (a : Word) : (s.jump a).io = s.io := rfl
@[simp] theorem State.jump_ie (s : State) (a : Word) : (s.jump a).ie = s.ie := rfl
@[simp] theorem State.jump_cart (s : State) (a : Word) : (s.jump a).cart = s.cart := rfl
@[simp] theorem State.jump_ppu (s : State) (a : Word) : (s.jump a).ppu = s.ppu := rfl
@[simp] theorem State.jump_timer (s : State) (a : Word) : (s.jump a).timer = s.timer := rfl
@[simp] theorem State.jump_joypad (s : State) (a : Word) : (s.jump a).joypad = s.joypad := rfl
@[simp] theorem State.jump_frameTotal (s : State) (a : Word) : (s.jump a).frameTotal = s.frameTotal := rfl
@[simp] theorem State.jump_cycles (s : State) (a : Word) : (s.jump a).cycles = s.cycles := rfl
@[simp] theorem State.jump_epoch (s : State) (a : Word) : (s.jump a).epoch = s.epoch := rfl

/-! `State.setSp` -/

@[simp] theorem State.setSp_cpu (s : State) (v : Word) : (s.setSp v).cpu = { s.cpu with sp := v } := rfl
@[simp] theorem State.setSp_vram (s : State) (v : Word) : (s.setSp v).vram = s.vram := rfl
@[simp] theorem State.setSp_wram (s : State) (v : Word) : (s.setSp v).wram = s.wram := rfl
@[simp] theorem State.setSp_oam (s : State) (v : Word) : (s.setSp v).oam = s.oam := rfl
@[simp] theorem State.setSp_hram (s : State) (v : Word) : (s.setSp v).hram = s.hram := rfl
@[simp] theorem State.setSp_io (s : State) (v : Word) : (s.setSp v).io = s.io := rfl
@[simp] theorem State.setSp_ie (s : State) (v : Word) : (s.setSp v).ie = s.ie := rfl
@[simp] theorem State.setSp_cart (s : State) (v : Word) : (s.setSp v).cart = s.cart := rfl
@[simp] theorem State.setSp_ppu (s : State) (v : Word) : (s.setSp v).ppu = s.ppu := rfl
@[simp] theorem State.setSp_timer (s : State) (v : Word) : (s.setSp v).timer = s.timer := rfl
@[simp] theorem State.setSp_joypad (s : State) (v : Word) : (s.setSp v).joypad = s.joypad := rfl
@[simp] theorem State.setSp_frameTotal (s : State) (v : Word) : (s.setSp v).frameTotal = s.frameTotal := rfl
@[simp] theorem State.setSp_cycles (s : State) (v : Word) : (s.setSp v).cycles = s.cycles := rfl
@[simp] theorem State.setSp_epoch (s : State) (v : Word) : (s.setSp v).epoch = s.epoch := rfl

/-! `State.setF` -/

@[simp] theorem State.setF_cpu (s : State) (v : Byte) : (s.setF v).cpu = { s.cpu with f := v } := rfl
@[simp] theorem State.setF_vram (s : State) (v : Byte) : (s.setF v).vram = s.vram := rfl
@[simp] theorem State.setF_wram (s : State) (v : Byte) : (s.setF v).wram = s.wram := rfl
@[simp] theorem State.setF_oam (s : State) (v : Byte) : (s.setF v).oam = s.oam := rfl
@[simp] theorem State.setF_hram (s : State) (v : Byte) : (s.setF v).hram = s.hram := rfl
@[simp] theorem State.setF_io (s : State) (v : Byte) : (s.setF v).io = s.io := rfl
@[simp] theorem State.setF_ie (s : State) (v : Byte) : (s.setF v).ie = s.ie := rfl
@[simp] theorem State.setF_cart (s : State) (v : Byte) : (s.setF v).cart = s.cart := rfl
@[simp] theorem State.setF_ppu (s : State) (v : Byte) : (s.setF v).ppu = s.ppu := rfl
@[simp] theorem State.setF_timer (s : State) (v : Byte) : (s.setF v).timer = s.timer := rfl
@[simp] theorem State.setF_joypad (s : State) (v : Byte) : (s.setF v).joypad = s.joypad := rfl
@[simp] theorem State.setF_frameTotal (s : State) (v : Byte) : (s.setF v).frameTotal = s.frameTotal := rfl
@[simp] theorem State.setF_cycles (s : State) (v : Byte) : (s.setF v).cycles = s.cycles := rfl
@[simp] theorem State.setF_epoch (s : State) (v : Byte) : (s.setF v).epoch = s.epoch := rfl

/-! `State.setReg` -/

@[simp] theorem State.setReg_cpu (s : State) (r : Reg8) (v : Byte) : (s.setReg r v).cpu = s.cpu.setReg r v := rfl
@[simp] theorem State.setReg_vram (s : State) (r : Reg8) (v : Byte) : (s.setReg r v).vram = s.vram := rfl
@[simp] theorem State.setReg_wram (s : State) (r : Reg8) (v : Byte) : (s.setReg r v).wram = s.wram := rfl
@[simp] theorem State.setReg_oam (s : State) (r : Reg8) (v : Byte) : (s.setReg r v).oam = s.oam := rfl
@[simp] theorem State.setReg_hram (s : State) (r : Reg8) (v : Byte) : (s.setReg r v).hram = s.hram := rfl
@[simp] theorem State.setReg_io (s : State) (r : Reg8) (v : Byte) : (s.setReg r v).io = s.io := rfl
@[simp] theorem State.setReg_ie (s : State) (r : Reg8) (v : Byte) : (s.setReg r v).ie = s.ie := rfl
@[simp] theorem State.setReg_cart (s : State) (r : Reg8) (v : Byte) : (s.setReg r v).cart = s.cart := rfl
@[simp] theorem State.setReg_ppu (s : State) (r : Reg8) (v : Byte) : (s.setReg r v).ppu = s.ppu := rfl
@[simp] theorem State.setReg_timer (s : State) (r : Reg8) (v : Byte) : (s.setReg r v).timer = s.timer := rfl
@[simp] theorem State.setReg_joypad (s : State) (r : Reg8) (v : Byte) : (s.setReg r v).joypad = s.joypad := rfl
@[simp] theorem State.setReg_frameTotal (s : State) (r : Reg8) (v : Byte) : (s.setReg r v).frameTotal = s.frameTotal := rfl
@[simp] theorem State.setReg_cycles (s : State) (r : Reg8) (v : Byte) : (s.setReg r v).cycles = s.cycles := rfl
@[simp] theorem State.setReg_epoch (s : State) (r : Reg8) (v : Byte) : (s.setReg r v).epoch = s.epoch := rfl

/-! `State.setPair` -/

@[simp] theorem State.setPair_cpu (s : State) (p : Pair) (v : Word) : (s.setPair p v).cpu = s.cpu.setPair p v := rfl
@[simp] theorem State.setPair_vram (s : State) (p : Pair) (v : Word) : (s.setPair p v).vram = s.vram := rfl
@[simp] theorem State.setPair_wram (s : State) (p : Pair) (v : Word) : (s.setPair p v).wram = s.wram := rfl
@[simp] theorem State.setPair_oam (s : State) (p : Pair) (v : Word) : (s.setPair p v).oam = s.oam := rfl
@[simp] theorem State.setPair_hram (s : State) (p : Pair) (v : Word) : (s.setPair p v).hram = s.hram := rfl
@[simp] theorem State.setPair_io (s : State) (p : Pair) (v : Word) : (s.setPair p v).io = s.io := rfl
@[simp] theorem State.setPair_ie (s : State) (p : Pair) (v : Word) : (s.setPair p v).ie = s.ie := rfl
@[simp] theorem State.setPair_cart (s : State) (p : Pair) (v : Word) : (s.setPair p v).cart = s.cart := rfl
@[simp] theorem State.setPair_ppu (s : State) (p : Pair) (v : Word) : (s.setPair p v).ppu = s.ppu := rfl
@[simp] theorem State.setPair_timer (s : State) (p : Pair) (v : Word) : (s.setPair p v).timer = s.timer := rfl
@[simp] theorem State.setPair_joypad (s : State) (p : Pair) (v : Word) : (s.setPair p v).joypad = s.joypad := rfl
@[simp] theorem State.setPair_frameTotal (s : State) (p : Pair) (v : Word) : (s.setPair p v).frameTotal = s.frameTotal := rfl
@[simp] theorem State.setPair_cycles (s : State) (p : Pair) (v : Word) : (s.setPair p v).cycles = s.cycles := rfl
@[simp] theorem State.setPair_epoch (s : State) (p : Pair) (v : Word) : (s.setPair p v).epoch = s.epoch := rfl

/-! `State.setIo` -/

@[simp] theorem State.setIo_cpu (s : State) (r : IoReg) (v : Byte) : (s.setIo r v).cpu = s.cpu := rfl
@[simp] theorem State.setIo_vram (s : State) (r : IoReg) (v : Byte) : (s.setIo r v).vram = s.vram := rfl
@[simp] theorem State.setIo_wram (s : State) (r : IoReg) (v : Byte) : (s.setIo r v).wram = s.wram := rfl
@[simp] theorem State.setIo_oam (s : State) (r : IoReg) (v : Byte) : (s.setIo r v).oam = s.oam := rfl
@[simp] theorem State.setIo_hram (s : State) (r : IoReg) (v : Byte) : (s.setIo r v).hram = s.hram := rfl
@[simp] theorem State.setIo_io (s : State) (r : IoReg) (v : Byte) : (s.setIo r v).io = s.io.setReg r v := rfl
@[simp] theorem State.setIo_ie (s : State) (r : IoReg) (v : Byte) : (s.setIo r v).ie = s.ie := rfl
@[simp] theorem State.setIo_cart (s : State) (r : IoReg) (v : Byte) : (s.setIo r v).cart = s.cart := rfl
@[simp] theorem State.setIo_ppu (s : State) (r : IoReg) (v : Byte) : (s.setIo r v).ppu = s.ppu := rfl
@[simp] theorem State.setIo_timer (s : State) (r : IoReg) (v : Byte) : (s.setIo r v).timer = s.timer := rfl
@[simp] theorem State.setIo_joypad (s : State) (r : IoReg) (v : Byte) : (s.setIo r v).joypad = s.joypad := rfl
@[simp] theorem State.setIo_frameTotal (s : State) (r : IoReg) (v : Byte) : (s.setIo r v).frameTotal = s.frameTotal := rfl
@[simp] theorem State.setIo_cycles (s : State) (r : IoReg) (v : Byte) : (s.setIo r v).cycles = s.cycles := rfl
@[simp] theorem State.setIo_epoch (s : State) (r : IoReg) (v : Byte) : (s.setIo r v).epoch = s.epoch := rfl

/-! `State.requestInterrupt` -/

@[simp] theorem State.requestInterrupt_cpu (s : State) (k : Irq) : (s.requestInterrupt k).cpu = s.cpu := rfl
@[simp] theorem State.requestInterrupt_vram (s : State) (k : Irq) : (s.requestInterrupt k).vram = s.vram := rfl
@[simp] theorem State.requestInterrupt_wram (s : State) (k : Irq) : (s.requestInterrupt k).wram = s.wram := rfl
@[simp] theorem State.requestInterrupt_oam (s : State) (k : Irq) : (s.requestInterrupt k).oam = s.oam := rfl
@[simp] theorem State.requestInterrupt_hram (s : State) (k : Irq) : (s.requestInterrupt k).hram = s.hram := rfl
@[simp] theorem State.requestInterrupt_io (s : State) (k : Irq) : (s.requestInterrupt k).io = s.io.setReg .ifr (s.io.ifr ||| k.mask) := rfl
@[simp] theorem State.requestInterrupt_ie (s : State) (k : Irq) : (s.requestInterrupt k).ie = s.ie := rfl
@[simp] theorem State.requestInterrupt_cart (s : State) (k : Irq) : (s.requestInterrupt k).cart = s.cart := rfl
@[simp] theorem State.requestInterrupt_ppu (s : State) (k : Irq) : (s.requestInterrupt k).ppu = s.ppu := rfl
@[simp] theorem State.requestInterrupt_timer (s : State) (k : Irq) : (s.requestInterrupt k).timer = s.timer := rfl
@[simp] theorem State.requestInterrupt_joypad (s : State) (k : Irq) : (s.requestInterrupt k).joypad = s.joypad := rfl
@[simp] theorem State.requestInterrupt_frameTotal (s : State) (k : Irq) : (s.requestInterrupt k).frameTotal = s.frameTotal := rfl
@[simp] theorem State.requestInterrupt_cycles (s : State) (k : Irq) : (s.requestInterrupt k).cycles = s.cycles := rfl
@[simp] theorem State.requestInterrupt_epoch (s : State) (k : Irq) : (s.requestInterrupt k).epoch = s.epoch := rfl

/-! Registers of the CPU -/

@[simp] theorem Cpu.setReg_f (c : Cpu) (r : Reg8) (v : Byte) : (c.setReg r v).f = c.f := by cases r <;> rfl
@[simp] theorem Cpu.setReg_sp (c : Cpu) (r : Reg8) (v : Byte) : (c.setReg r v).sp = c.sp := by cases r <;> rfl
@[simp] theorem Cpu.setReg_pc (c : Cpu) (r : Reg8) (v : Byte) : (c.setReg r v).pc = c.pc := by cases r <;> rfl
@[simp] theorem Cpu.setReg_halted (c : Cpu) (r : Reg8) (v : Byte) : (c.setReg r v).halted = c.halted := by cases r <;> rfl
@[simp] theorem Cpu.setReg_stopped (c : Cpu) (r : Reg8) (v : Byte) : (c.setReg r v).stopped = c.stopped := by cases r <;> rfl
@[simp] theorem Cpu.setReg_ime (c : Cpu) (r : Reg8) (v : Byte) : (c.setReg r v).ime = c.ime := by cases r <;> rfl
@[simp] theorem Cpu.setReg_imePending (c : Cpu) (r : Reg8) (v : Byte) : (c.setReg r v).imePending = c.imePending := by cases r <;> rfl
@[simp] theorem Cpu.setReg_fault (c : Cpu) (r : Reg8) (v : Byte) : (c.setReg r v).fault = c.fault := by cases r <;> rfl

@[simp] theorem Cpu.reg_setReg (c : Cpu) (r q : Reg8) (v : Byte) :
    (c.setReg r v).reg q = if q = r then v else c.reg q := by cases r <;> cases q <;> rfl

@[simp] theorem Cpu.setPair_f (c : Cpu) (p : Pair) (v : Word) : (c.setPair p v).f = c.f := by cases p <;> rfl
@[simp] theorem Cpu.setPair_pc (c : Cpu) (p : Pair) (v : Word) : (c.setPair p v).pc = c.pc := by cases p <;> rfl
@[simp] theorem Cpu.setPair_halted (c : Cpu) (p : Pair) (v : Word) : (c.setPair p v).halted = c.halted := by cases p <;> rfl
@[simp] theorem Cpu.setPair_stopped (c : Cpu) (p : Pair) (v : Word) : (c.setPair p v).stopped = c.stopped := by cases p <;> rfl
@[simp] theorem Cpu.setPair_ime (c : Cpu) (p : Pair) (v : Word) : (c.setPair p v).ime = c.ime := by cases p <;> rfl
@[simp] theorem Cpu.setPair_imePending (c : Cpu) (p : Pair) (v : Word) : (c.setPair p v).imePending = c.imePending := by cases p <;> rfl
@[simp] theorem Cpu.setPair_fault (c : Cpu) (p : Pair) (v : Word) : (c.setPair p v).fault = c.fault := by cases p <;> rfl

theorem joinBytes_hi_lo (v : Word) : joinBytes (hiByte v) (loByte v) = v := by
  simp only [joinBytes, hiByte, loByte]
  ext i hi
  simp only [BitVec.getElem_append, BitVec.getElem_extractLsb']
  split
  · simp [BitVec.getLsbD_eq_getElem, hi]
  · rw [show 8 + (i - 8) = i by omega]
    simp [BitVec.getLsbD_eq_getElem, hi]

@[simp] theorem hiByte_joinBytes (h l : Byte) : hiByte (joinBytes h l) = h := by
  simp only [joinBytes, hiByte]
  ext i hi
  simp only [BitVec.getElem_extractLsb', BitVec.getLsbD_append]
  rw [if_neg (by omega)]
  simp [BitVec.getLsbD_eq_getElem, hi]

@[simp] theorem loByte_joinBytes (h l : Byte) : loByte (joinBytes h l) = l := by
  simp only [joinBytes, loByte]
  ext i hi
  simp only [BitVec.getElem_extractLsb', BitVec.getLsbD_append]
  rw [if_pos (by omega)]
  simp [BitVec.getLsbD_eq_getElem, hi]

theorem Cpu.pair_setPair (c : Cpu) (p q : Pair) (v : Word) :
    (c.setPair p v).pair q = if q = p then v else c.pair q := by
  cases p <;> cases q <;> simp [Cpu.setPair, Cpu.pair, joinBytes_hi_lo]

theorem Cpu.stk_setStk (c : Cpu) (p : StkPair) (v : Word) :
    (c.setStk p v).stk p = if p = .af then joinBytes (hiByte v) (loByte v &&& 0xF0) else v := by
  cases p <;> simp [Cpu.setStk, Cpu.stk, Cpu.pair_setPair, BitVec.and_assoc]

/-! The I/O file -/

@[simp] theorem IoFile.reg_setReg (io : IoFile) (r q : IoReg) (v : Byte) :
    (io.setReg r v).reg q = if q = r then v else io.reg q := by cases r <;> cases q <;> rfl

@[simp] theorem IoFile.setReg_plain (io : IoFile) (r : IoReg) (v : Byte) : (io.setReg r v).plain = io.plain := by
  cases r <;> rfl

theorem IoReg.at?_offset (r : IoReg) : IoReg.at? r.offset = some r := by cases r <;> rfl

theorem IoReg.offset_of_at? {off : Nat} {r : IoReg} (h : IoReg.at? off = some r) : r.offset = off := by
  have := List.find?_some h
  simpa using this

end Sys2Proof.Machine
end

