-- ==== Sys2Proof/Laws/Bus.lean ====
section
/-! SUPPORT. Laws of the bus: what a write can change, that it does not look at the CPU, and the read after a write. -/

namespace Sys2Proof.Machine

/-! ### The CPU and the bus do not see each other -/

@[simp] theorem withCpu_cpu (s : State) (c : Cpu) (n : Nat) : (s.withCpu c n).cpu = c := rfl
@[simp] theorem withCpu_cycles (s : State) (c : Cpu) (n : Nat) : (s.withCpu c n).cycles = n := rfl
@[simp] theorem withCpu_io (s : State) (c : Cpu) (n : Nat) : (s.withCpu c n).io = s.io := rfl
@[simp] theorem withCpu_ie (s : State) (c : Cpu) (n : Nat) : (s.withCpu c n).ie = s.ie := rfl
@[simp] theorem withCpu_cart (s : State) (c : Cpu) (n : Nat) : (s.withCpu c n).cart = s.cart := rfl
@[simp] theorem withCpu_withCpu (s : State) (c d : Cpu) (n m : Nat) : (s.withCpu c n).withCpu d m = s.withCpu d m := rfl
@[simp] theorem withCpu_self (s : State) : s.withCpu s.cpu s.cycles = s := rfl

@[simp] theorem readLoc_withCpu (s : State) (c : Cpu) (n : Nat) (l : Loc) : readLoc (s.withCpu c n) l = readLoc s l := by
  cases l <;> rfl

@[simp] theorem busRead_withCpu (s : State) (c : Cpu) (n : Nat) (a : Word) : busRead (s.withCpu c n) a = busRead s a :=
  readLoc_withCpu s c n _

theorem dmaByte_withCpu (v : Byte) (s : State) (c : Cpu) (n i : Nat) :
    dmaByte v (s.withCpu c n) i = (dmaByte v s i).withCpu c n := by
  simp only [dmaByte, busRead_withCpu]
  rfl

theorem dmaFold_withCpu (v : Byte) (c : Cpu) (n : Nat) (l : List Nat) (s : State) :
    l.foldl (dmaByte v) (s.withCpu c n) = (l.foldl (dmaByte v) s).withCpu c n := by
  induction l generalizing s with
  | nil => rfl
  | cons i l ih => rw [List.foldl_cons, List.foldl_cons, dmaByte_withCpu, ih]

theorem dmaCopy_withCpu (v : Byte) (s : State) (c : Cpu) (n : Nat) :
    dmaCopy v (s.withCpu c n) = (dmaCopy v s).withCpu c n := dmaFold_withCpu v c n _ s

theorem setIo_withCpu (s : State) (c : Cpu) (n : Nat) (r : IoReg) (v : Byte) :
    (s.withCpu c n).setIo r v = (s.setIo r v).withCpu c n := rfl

theorem lcdOffReset_withCpu (s : State) (c : Cpu) (n : Nat) :
    lcdOffReset (s.withCpu c n) = (lcdOffReset s).withCpu c n := by
  unfold lcdOffReset
  split
  · rw [if_pos (by assumption)]
  · rw [if_neg (by assumption)]
    rfl

theorem joypadUpdate_withCpu (s : State) (c : Cpu) (n : Nat) :
    joypadUpdate (s.withCpu c n) = (joypadUpdate s).withCpu c n := by
  unfold joypadUpdate
  dsimp only
  split
  · rw [if_pos (by assumption)]
    rfl
  · rw [if_neg (by assumption)]
    rfl

theorem writeP1_withCpu (s : State) (c : Cpu) (n : Nat) (v : Byte) :
    writeP1 (s.withCpu c n) v = (writeP1 s v).withCpu c n := by
  unfold writeP1
  rw [withCpu_io, setIo_withCpu, joypadUpdate_withCpu]

theorem ioWrite_withCpu (s : State) (c : Cpu) (n : Nat) (off : Nat) (v : Byte) :
    ioWrite (s.withCpu c n) off v = (ioWrite s off v).withCpu c n := by
  unfold ioWrite
  cases IoReg.at? off with
  | none => rfl
  | some r =>
    cases r
    case p1 => exact writeP1_withCpu s c n v
    case lcdc =>
      dsimp only
      rw [setIo_withCpu]
      split
      · rfl
      · exact lcdOffReset_withCpu _ c n
    case dma =>
      dsimp only
      rw [setIo_withCpu, dmaCopy_withCpu]
    all_goals rfl

/-- A bus write does not look at the CPU or the cycle count, and leaves both. -/
theorem busWrite_withCpu (s : State) (c : Cpu) (n : Nat) (a : Word) (v : Byte) :
    busWrite (s.withCpu c n) a v = (busWrite s a v).withCpu c n := by
  unfold busWrite writeLoc
  split <;> first | rfl | exact ioWrite_withCpu s c n _ v

@[simp] theorem busWrite_cpu (s : State) (a : Word) (v : Byte) : (busWrite s a v).cpu = s.cpu :=
by
  have h := busWrite_withCpu s s.cpu s.cycles a v
  rw [withCpu_self] at h
  exact (congrArg State.cpu h).trans rfl

@[simp] theorem busWrite_cycles (s : State) (a : Word) (v : Byte) : (busWrite s a v).cycles = s.cycles :=
by
  have h := busWrite_withCpu s s.cpu s.cycles a v
  rw [withCpu_self] at h
  exact (congrArg State.cycles h).trans rfl

/-! ### What a write can change -/

theorem dmaFold_frame (v : Byte) (l : List Nat) (s : State) :
    ∃ m, l.foldl (dmaByte v) s = { s with oam := m } ∧ (Memory.wf s.oam → Memory.wf m) := by
  induction l generalizing s with
  | nil => exact ⟨s.oam, rfl, id⟩
  | cons i l ih =>
    obtain ⟨m, hm, hw⟩ := ih (dmaByte v s i)
    exact ⟨m, hm, fun h => hw (Store.put_wf _ _ h)⟩

theorem dmaCopy_frame (v : Byte) (s : State) :
    ∃ m, dmaCopy v s = { s with oam := m } ∧ (Memory.wf s.oam → Memory.wf m) := dmaFold_frame v _ s

theorem ioSet_other (io : IoFile) {off : Nat} (v : Byte) (h : off ∉ [0x00, 0x04, 0x40, 0x41, 0x44, 0x46]) :
    (io.set off v).p1 = io.p1 ∧ (io.set off v).div = io.div ∧ (io.set off v).lcdc = io.lcdc ∧
      (io.set off v).stat = io.stat ∧ (io.set off v).ly = io.ly ∧ (io.set off v).dma = io.dma := by
  simp only [IoFile.set]
  split
  · next r hr =>
    have := IoReg.offset_of_at? hr
    subst this
    cases r <;> first | (exfalso; revert h; decide) | exact ⟨rfl, rfl, rfl, rfl, rfl, rfl⟩
  · exact ⟨rfl, rfl, rfl, rfl, rfl, rfl⟩

theorem locate_bank0 {a : Word} {off : Nat} (h : locate a = .bank0 off) : off = a.toNat := by
  simp only [locate] at h
  split at h
  · exact (Loc.bank0.inj h).symm
  · repeat (first | (split at h) | cases h)

theorem locate_bankN {a : Word} {off : Nat} (h : locate a = .bankN off) : 0x4000 + off = a.toNat := by
  simp only [locate] at h
  split at h
  · cases h
  · split at h
    · have := Loc.bankN.inj h
      omega
    · repeat (first | (split at h) | cases h)

/-- Everything a bus write can do: to the cell of the address, or the hook of the offset. -/
theorem busWrite_cases (s : State) (a : Word) (v : Byte) :
    (∃ m, busWrite s a v = { s with vram := m } ∧ (Memory.wf s.vram → Memory.wf m)) ∨
    (∃ m, busWrite s a v = { s with wram := m } ∧ (Memory.wf s.wram → Memory.wf m)) ∨
    (∃ m, busWrite s a v = { s with oam := m } ∧ (Memory.wf s.oam → Memory.wf m)) ∨
    (∃ m, busWrite s a v = { s with hram := m } ∧ (Memory.wf s.hram → Memory.wf m)) ∨
    busWrite s a v = { s with ie := v } ∨
    busWrite s a v = s ∨
    (∃ c, busWrite s a v = { s with cart := c } ∧
      (c = cartWriteControl s.cart a.toNat v ∨ ∃ off, c = cartWriteRam s.cart off v)) ∨
    (∃ off, busWrite s a v = ioWrite s off v) := by
  unfold busWrite writeLoc
  split
  all_goals rename_i h
  · exact .inr (.inr (.inr (.inr (.inr (.inr (.inl ⟨_, rfl, .inl (by rw [locate_bank0 h])⟩))))))
  · exact .inr (.inr (.inr (.inr (.inr (.inr (.inl ⟨_, rfl, .inl (by rw [locate_bankN h])⟩))))))
  · exact .inl ⟨_, rfl, Store.put_wf _ _⟩
  · exact .inr (.inr (.inr (.inr (.inr (.inr (.inl ⟨_, rfl, .inr ⟨_, rfl⟩⟩))))))
  · exact .inr (.inl ⟨_, rfl, Store.put_wf _ _⟩)
  · exact .inr (.inr (.inl ⟨_, rfl, Store.put_wf _ _⟩))
  · exact .inr (.inr (.inr (.inr (.inr (.inl rfl)))))
  · exact .inr (.inr (.inr (.inr (.inr (.inr (.inr ⟨_, rfl⟩))))))
  · exact .inr (.inr (.inr (.inl ⟨_, rfl, Store.put_wf _ _⟩)))
  · exact .inr (.inr (.inr (.inr (.inl rfl))))

/-- Everything a write to the I/O file can do. -/
theorem ioWrite_cases (s : State) (off : Nat) (v : Byte) :
    (off = 0x00 ∧ ioWrite s off v = writeP1 s v) ∨
    (off = 0x04 ∧ ioWrite s off v = { s.setIo .div 0 with timer := { s.timer with divAcc := 0 } }) ∨
    (off = 0x40 ∧ ioWrite s off v = if v.getLsbD 7 then s.setIo .lcdc v else lcdOffReset (s.setIo .lcdc v)) ∨
    (off = 0x41 ∧ ioWrite s off v = s.setIo .stat ((s.io.stat &&& 0x87) ||| (v &&& 0x78))) ∨
    (off = 0x44 ∧ ioWrite s off v = s) ∨
    (off = 0x46 ∧ ioWrite s off v = dmaCopy v (s.setIo .dma v)) ∨
    (off ∉ [0x00, 0x04, 0x40, 0x41, 0x44, 0x46] ∧ ioWrite s off v = { s with io := s.io.set off v }) := by
  unfold ioWrite
  split
  all_goals rename_i h
  · exact .inl ⟨(IoReg.offset_of_at? h).symm, rfl⟩
  · exact .inr (.inl ⟨(IoReg.offset_of_at? h).symm, rfl⟩)
  · exact .inr (.inr (.inl ⟨(IoReg.offset_of_at? h).symm, rfl⟩))
  · exact .inr (.inr (.inr (.inl ⟨(IoReg.offset_of_at? h).symm, rfl⟩)))
  · exact .inr (.inr (.inr (.inr (.inl ⟨(IoReg.offset_of_at? h).symm, rfl⟩))))
  · exact .inr (.inr (.inr (.inr (.inr (.inl ⟨(IoReg.offset_of_at? h).symm, rfl⟩)))))
  · refine .inr (.inr (.inr (.inr (.inr (.inr ⟨?_, rfl⟩)))))
    intro hm
    simp only [List.mem_cons, List.not_mem_nil, or_false] at hm
    rcases hm with rfl | rfl | rfl | rfl | rfl | rfl
    · exact absurd (IoReg.at?_offset .p1) (by simp_all [IoReg.offset])
    · exact absurd (IoReg.at?_offset .div) (by simp_all [IoReg.offset])
    · exact absurd (IoReg.at?_offset .lcdc) (by simp_all [IoReg.offset])
    · exact absurd (IoReg.at?_offset .stat) (by simp_all [IoReg.offset])
    · exact absurd (IoReg.at?_offset .ly) (by simp_all [IoReg.offset])
    · exact absurd (IoReg.at?_offset .dma) (by simp_all [IoReg.offset])

end Sys2Proof.Machine
end

