-- ==== Sys2Proof/Laws/Cells.lean ====
section
/-! SUPPORT. The cell behind an address, and the read after a plain store. -/

namespace Sys2Proof.Machine

/-- What a read of a cell returns; an `xram` cell is a byte of the array itself. -/
def readCell (s : State) (l : Loc) : Byte :=
  match l with
  | .xram i => s.cart.xram.byteAt (Config.ramInit s.epoch .xram i) i
  | l => readLoc s l

theorem busRead_cell (s : State) (b : Word) : busRead s b = readCell s (cellOf s b) := by
  unfold busRead cellOf
  cases h : locate b with
  | xram off =>
    simp only [readLoc, cartReadRam]
    cases xramIndex s.cart off <;> rfl
  | _ => rfl

/-- Two I/O bytes do not disturb each other. -/
theorem IoFile.get_set (io : IoFile) (off q : Nat) (v : Byte) :
    (io.set off v).get q = if q = off then v else io.get q := by
  unfold IoFile.set IoFile.get
  cases ho : IoReg.at? off with
  | none =>
    cases hq : IoReg.at? q with
    | none => simp only [Memory.byteAt_put]
    | some r =>
      have : q ≠ off := by
        rintro rfl
        simp [ho] at hq
      simp only [this, if_false]
      cases r <;> rfl
  | some r =>
    cases hq : IoReg.at? q with
    | none =>
      have : q ≠ off := by
        rintro rfl
        simp [ho] at hq
      simp [this]
    | some p =>
      simp only [IoFile.reg_setReg]
      have h1 := IoReg.offset_of_at? ho
      have h2 := IoReg.offset_of_at? hq
      by_cases h : p = r
      · subst h
        simp [← h1, ← h2]
      · have : q ≠ off := by
          rintro rfl
          rw [ho] at hq
          exact h (Option.some.inj hq).symm
        simp [h, this]

/-- A plain store writes its cell and nothing else. -/
theorem busWrite_plain {s : State} {a : Word} (v : Byte) (h : plainStore s a = true) :
    (∃ i, cellOf s a = .vram i ∧ busWrite s a v = { s with vram := Store.put s.vram i v }) ∨
    (∃ i, cellOf s a = .xram i ∧ busWrite s a v = { s with cart := { s.cart with xram := Store.put s.cart.xram i v } }) ∨
    (∃ i, cellOf s a = .wram i ∧ busWrite s a v = { s with wram := Store.put s.wram i v }) ∨
    (∃ i, cellOf s a = .oam i ∧ busWrite s a v = { s with oam := Store.put s.oam i v }) ∨
    (∃ i, cellOf s a = .hram i ∧ busWrite s a v = { s with hram := Store.put s.hram i v }) ∨
    (cellOf s a = .ie ∧ busWrite s a v = { s with ie := v }) ∨
    (∃ off, cellOf s a = .io off ∧ busWrite s a v = { s with io := s.io.set off v }) := by
  unfold plainStore at h
  unfold busWrite
  cases hl : locate a with
  | bank0 off => simp [cellOf, hl] at h
  | bankN off => simp [cellOf, hl] at h
  | vram i => exact .inl ⟨i, by simp [cellOf, hl], rfl⟩
  | xram off =>
    cases hx : xramIndex s.cart off with
    | none => simp [cellOf, hl, hx] at h
    | some i => exact .inr (.inl ⟨i, by simp [cellOf, hl, hx], by simp [writeLoc, cartWriteRam, hx]⟩)
  | wram i => exact .inr (.inr (.inl ⟨i, by simp [cellOf, hl], rfl⟩))
  | oam i => exact .inr (.inr (.inr (.inl ⟨i, by simp [cellOf, hl], rfl⟩)))
  | unusable => simp [cellOf, hl] at h
  | io off =>
    refine .inr (.inr (.inr (.inr (.inr (.inr ⟨off, by simp [cellOf, hl], ?_⟩)))))
    have hh : off ∉ [0x00, 0x04, 0x40, 0x41, 0x44, 0x46] := by simpa [cellOf, hl, hookedOffset] using h
    simp only [writeLoc]
    rcases ioWrite_cases s off v with h | h | h | h | h | h | h
    · exact absurd (by simp [h.1]) hh
    · exact absurd (by simp [h.1]) hh
    · exact absurd (by simp [h.1]) hh
    · exact absurd (by simp [h.1]) hh
    · exact absurd (by simp [h.1]) hh
    · exact absurd (by simp [h.1]) hh
    · exact h.2
  | hram i => exact .inr (.inr (.inr (.inr (.inl ⟨i, by simp [cellOf, hl], rfl⟩))))
  | ie => exact .inr (.inr (.inr (.inr (.inr (.inl ⟨by simp [cellOf, hl], rfl⟩)))))

theorem xramIndex_xram (c : Cart) (m : Memory) (off : Nat) : xramIndex { c with xram := m } off = xramIndex c off := rfl

/-- A plain store does not move any cell. -/
theorem cellOf_busWrite {s : State} {a : Word} (v : Byte) (h : plainStore s a = true) (b : Word) :
    cellOf (busWrite s a v) b = cellOf s b := by
  rcases busWrite_plain v h with ⟨i, _, e⟩ | ⟨i, _, e⟩ | ⟨i, _, e⟩ | ⟨i, _, e⟩ | ⟨i, _, e⟩ | ⟨_, e⟩ | ⟨i, _, e⟩ <;>
    rw [e] <;> rfl

theorem plainStore_busWrite {s : State} {a : Word} (v : Byte) (h : plainStore s a = true) (b : Word) :
    plainStore (busWrite s a v) b = plainStore s b := by
  unfold plainStore
  rw [cellOf_busWrite v h]

/-- The read after a plain store: the byte stored at every address of the same cell, the old byte everywhere else. -/
theorem busRead_busWrite {s : State} {a : Word} (v : Byte) (h : plainStore s a = true) (b : Word) :
    busRead (busWrite s a v) b = if cellOf s b = cellOf s a then v else busRead s b := by
  rw [busRead_cell, cellOf_busWrite v h, busRead_cell s b]
  rcases busWrite_plain v h with ⟨i, hc, e⟩ | ⟨i, hc, e⟩ | ⟨i, hc, e⟩ | ⟨i, hc, e⟩ | ⟨i, hc, e⟩ | ⟨hc, e⟩ | ⟨i, hc, e⟩ <;>
    rw [e, hc] <;> cases cellOf s b <;>
    simp only [readCell, readLoc, vramAt, wramAt, oamAt, hramAt, Memory.byteAt_put, IoFile.get_set, reduceCtorEq,
      if_false, if_true, Loc.vram.injEq, Loc.xram.injEq, Loc.wram.injEq, Loc.oam.injEq, Loc.hram.injEq, Loc.io.injEq] <;>
    rfl

end Sys2Proof.Machine
end

