-- ==== Sys2Proof/Laws/Decode.lean ====
section
/-! SUPPORT. The decoder on three bytes: `decode` gives the instruction `decode3` reads, and a byte an instruction does
not have is not looked at. -/

namespace Sys2Proof

/-- A property of every byte, from the property of the 256 literals. -/
theorem byte_cases {P : Byte → Prop} (h : ∀ n : Fin 256, P (BitVec.ofNat 8 n)) (b : Byte) : P b := by
  simpa using h ⟨b.toNat, b.isLt⟩

theorem length_cases (i : Instr) : i.length = 1 ∨ i.length = 2 ∨ i.length = 3 := by
  cases i <;> first | exact .inl rfl | exact .inr (.inl rfl) | exact .inr (.inr rfl)

theorem length_decodeCb (b : Byte) : (decodeCb b).length = 2 := by
  revert b
  apply byte_cases
  decide +kernel

/-- An instruction of one byte does not look at the two after it. -/
theorem decode3_of_length_one (b1 b2 : Byte) : ∀ b0 : Byte, (decode3 b0 b1 b2).length = 1 →
    decode3 b0 0 0 = decode3 b0 b1 b2 := by
  apply byte_cases
  intro n
  by_cases hcb : BitVec.ofNat 8 n.val = 0xCB#8
  · rw [hcb]
    intro h
    rw [show decode3 0xCB#8 b1 b2 = decodeCb b1 from rfl, length_decodeCb] at h
    cases h
  · fin_cases n <;> first | exact absurd rfl hcb | (intro h; cases h; done) | exact fun _ => rfl

/-- An instruction of two bytes does not look at the one after it. -/
theorem decode3_of_length_two (b1 b2 : Byte) : ∀ b0 : Byte, (decode3 b0 b1 b2).length = 2 →
    decode3 b0 b1 0 = decode3 b0 b1 b2 := by
  apply byte_cases
  intro n
  fin_cases n <;> first | (intro h; cases h; done) | exact fun _ => rfl

/-- What `decode` gives on three bytes is what `decode3` reads. -/
theorem decode3_of_decode {b0 b1 b2 : Byte} {i : Instr} {rest : List Byte} (h : decode [b0, b1, b2] = .ok (i, rest)) :
    decode3 b0 b1 b2 = i := by
  unfold decode at h
  simp only [List.getD_cons_zero, List.getD_cons_succ] at h
  rcases length_cases (decode3 b0 b1 b2) with g | g | g <;> rw [g] at h <;>
    simp only [Except.ok.injEq, Prod.mk.injEq] at h
  · exact (decode3_of_length_one _ _ _ g).symm.trans h.1
  · exact (decode3_of_length_two _ _ _ g).symm.trans h.1
  · exact h.1

end Sys2Proof
end

