-- ==== Sys2Proof/Laws/Devices.lean ====
section
/-! SUPPORT. What the devices can change: the timer, the parts of the PPU and its transition, one lemma each. -/

namespace Sys2Proof.Machine

/-! ### Timer -/

theorem timaPeriod_pos (tac : Byte) : 0 < timaPeriod tac := by
  unfold timaPeriod
  split <;> decide

/-- A request for the timer interrupt sets bit 2 of IF and no other. -/
theorem timerMask_other (f : Byte) {i : Nat} (h : i ≠ 2) : (f ||| Irq.mask .timer).getLsbD i = f.getLsbD i := by
  rw [BitVec.getLsbD_or]
  have : (Irq.mask .timer).getLsbD i = false := by
    rcases Nat.lt_or_ge i 8 with hi | hi
    · interval_cases i <;> first | rfl | exact absurd rfl h
    · exact BitVec.getLsbD_of_ge _ _ hi
  rw [this, Bool.or_false]

/-- What any number of TIMA increments can change. -/
theorem timaTicks_frame (n : Nat) (s : State) : ∃ tima ifr,
    timaTicks n s = { s with io := { s.io with tima := tima, ifr := ifr } } ∧
    ∀ i, i ≠ 2 → ifr.getLsbD i = s.io.ifr.getLsbD i := by
  induction n generalizing s with
  | zero => exact ⟨_, _, rfl, fun _ _ => rfl⟩
  | succ n ih =>
    have h1 : ∃ tima ifr, timaTick s = { s with io := { s.io with tima := tima, ifr := ifr } } ∧
        ∀ i, i ≠ 2 → ifr.getLsbD i = s.io.ifr.getLsbD i := by
      unfold timaTick
      split
      · exact ⟨_, _, rfl, fun i hi => timerMask_other _ hi⟩
      · exact ⟨_, _, rfl, fun _ _ => rfl⟩
    obtain ⟨a, b, e, h⟩ := h1
    obtain ⟨c, d, e2, h2⟩ := ih (timaTick s)
    refine ⟨c, d, ?_, fun i hi => ?_⟩
    · rw [timaTicks, e2, e]
    · rw [h2 i hi, e]
      exact h i hi

/-- What a timer step changes, and where it leaves the accumulators (R353). -/
theorem timerStep_frame (c : Nat) (s : State) : ∃ div tima ifr acc,
    timerStep c s =
      { s with io := { s.io with div := div, tima := tima, ifr := ifr }, timer := ⟨(s.timer.divAcc + c) % 256, acc⟩ } ∧
    div = s.io.div + BitVec.ofNat 8 ((s.timer.divAcc + c) / 256) ∧
    (∀ i, i ≠ 2 → ifr.getLsbD i = s.io.ifr.getLsbD i) ∧
    (s.io.tac.getLsbD 2 = true → acc < timaPeriod s.io.tac) := by
  unfold timerStep timaStep
  split
  · obtain ⟨tima, ifr, e, h⟩ := timaTicks_frame (((divStep c s).timer.timaAcc + c) / timaPeriod (divStep c s).io.tac)
      { divStep c s with timer := { (divStep c s).timer with
        timaAcc := ((divStep c s).timer.timaAcc + c) % timaPeriod (divStep c s).io.tac } }
    exact ⟨_, tima, ifr, _, e.trans rfl, rfl, h, fun _ => Nat.mod_lt _ (timaPeriod_pos _)⟩
  · next h => exact ⟨_, _, _, _, rfl, rfl, fun _ _ => rfl, fun h' => absurd h' h⟩

/-! ### PPU -/

/-- Only STAT, LY, IF and the PPU's own state differ. -/
def PpuFrame (s t : State) : Prop :=
  t = { s with io := { s.io with stat := t.io.stat, ly := t.io.ly, ifr := t.io.ifr }, ppu := t.ppu }

theorem PpuFrame.refl (s : State) : PpuFrame s s := rfl

theorem PpuFrame.trans {s t u : State} (h1 : PpuFrame s t) (h2 : PpuFrame t u) : PpuFrame s u := by
  unfold PpuFrame at *
  rw [h2, h1]

theorem PpuFrame.ppu (s : State) (p : Ppu) : PpuFrame s { s with ppu := p } := rfl

theorem requestStat_bit0 (f : Byte) : (f ||| Irq.mask .stat).getLsbD 0 = f.getLsbD 0 := by
  rw [BitVec.getLsbD_or]
  exact Bool.or_false _

@[simp] theorem enterMode_ppu (m : PpuMode) (s : State) : (enterMode m s).ppu = { s.ppu with mode := m } := by
  unfold enterMode
  dsimp only
  split <;> rfl

@[simp] theorem enterMode_ly (m : PpuMode) (s : State) : (enterMode m s).io.ly = s.io.ly := by
  unfold enterMode
  dsimp only
  split <;> rfl

@[simp] theorem enterMode_stat (m : PpuMode) (s : State) :
    (enterMode m s).io.stat = (s.io.stat &&& 0xFC) ||| m.bits := by
  unfold enterMode
  dsimp only
  split <;> rfl

theorem enterMode_vblank (m : PpuMode) (s : State) : (enterMode m s).io.ifr.getLsbD 0 = s.io.ifr.getLsbD 0 := by
  unfold enterMode
  dsimp only
  split
  · exact requestStat_bit0 _
  · rfl

theorem enterMode_frame (m : PpuMode) (s : State) : PpuFrame s (enterMode m s) := by
  unfold enterMode
  dsimp only
  split <;> rfl

theorem setLine_ppu (n : Nat) (s : State) :
    (setLine n s).ppu = { s.ppu with line := n, lycLatch := (setLine n s).ppu.lycLatch } := by
  unfold setLine lycCheck
  dsimp only
  split
  · split
    · rfl
    · split <;> rfl
  · rfl

@[simp] theorem setLine_line (n : Nat) (s : State) : (setLine n s).ppu.line = n := by
  rw [setLine_ppu]
@[simp] theorem setLine_mode (n : Nat) (s : State) : (setLine n s).ppu.mode = s.ppu.mode := by
  rw [setLine_ppu]
@[simp] theorem setLine_acc (n : Nat) (s : State) : (setLine n s).ppu.acc = s.ppu.acc := by
  rw [setLine_ppu]
@[simp] theorem setLine_fb (n : Nat) (s : State) : (setLine n s).ppu.fb = s.ppu.fb := by
  rw [setLine_ppu]
@[simp] theorem setLine_bgi (n : Nat) (s : State) : (setLine n s).ppu.bgi = s.ppu.bgi := by
  rw [setLine_ppu]
@[simp] theorem setLine_winLine (n : Nat) (s : State) : (setLine n s).ppu.winLine = s.ppu.winLine := by
  rw [setLine_ppu]
@[simp] theorem setLine_frameReady (n : Nat) (s : State) : (setLine n s).ppu.frameReady = s.ppu.frameReady := by
  rw [setLine_ppu]

@[simp] theorem setLine_ly (n : Nat) (s : State) : (setLine n s).io.ly = BitVec.ofNat 8 n := by
  unfold setLine lycCheck
  dsimp only
  split
  · split
    · rfl
    · split <;> rfl
  · rfl

theorem setLine_stat (n : Nat) (s : State) : (setLine n s).io.stat &&& 3 = s.io.stat &&& 3 := by
  unfold setLine lycCheck
  dsimp only
  have h (v : Byte) : (v ||| 4) &&& 3 = v &&& 3 := by
    revert v
    decide +kernel
  have k (v : Byte) : (v &&& 0xFB) &&& 3 = v &&& 3 := by
    revert v
    decide +kernel
  split
  · split
    · exact h _
    · split <;> exact h _
  · exact k _

theorem setLine_vblank (n : Nat) (s : State) : (setLine n s).io.ifr.getLsbD 0 = s.io.ifr.getLsbD 0 := by
  unfold setLine lycCheck
  dsimp only
  split
  · split
    · rfl
    · split
      · exact requestStat_bit0 _
      · rfl
  · rfl

theorem setLine_frame (n : Nat) (s : State) : PpuFrame s (setLine n s) := by
  unfold setLine lycCheck
  dsimp only
  split
  · split
    · rfl
    · split <;> rfl
  · rfl

@[simp] theorem renderLine_line (s : State) (n : Nat) : (renderLine s n).ppu.line = s.ppu.line := rfl
@[simp] theorem renderLine_mode (s : State) (n : Nat) : (renderLine s n).ppu.mode = s.ppu.mode := rfl
@[simp] theorem renderLine_acc (s : State) (n : Nat) : (renderLine s n).ppu.acc = s.ppu.acc := rfl
@[simp] theorem renderLine_frameReady (s : State) (n : Nat) : (renderLine s n).ppu.frameReady = s.ppu.frameReady := rfl
@[simp] theorem renderLine_io (s : State) (n : Nat) : (renderLine s n).io = s.io := rfl

theorem renderLine_frame (s : State) (n : Nat) : PpuFrame s (renderLine s n) := rfl

theorem lcdOffReset_frame (s : State) : PpuFrame s (lcdOffReset s) := by
  unfold lcdOffReset
  split <;> rfl

/-- What a transition of the PPU can change. -/
theorem ppuTransition_frame (s : State) : PpuFrame s (ppuTransition s) := by
  have h0 := PpuFrame.ppu s { s.ppu with acc := s.ppu.acc - s.ppu.mode.duration }
  unfold ppuTransition
  dsimp only
  split
  · exact h0.trans (enterMode_frame _ _)
  · exact (h0.trans (renderLine_frame _ _)).trans (enterMode_frame _ _)
  · split
    · exact ((h0.trans (setLine_frame _ _)).trans (enterMode_frame _ _)).trans rfl
    · exact (h0.trans (setLine_frame _ _)).trans (enterMode_frame _ _)
  · split
    · exact ((PpuFrame.ppu s _).trans (setLine_frame _ _)).trans (enterMode_frame _ _)
    · exact h0.trans (setLine_frame _ _)

/-- Every transition but the one at the end of mode 3 keeps both buffers, and the window line counter but for the
wrap (R371). -/
theorem ppuTransition_buffers {s : State} (h : s.ppu.mode ≠ .drawing) :
    (ppuTransition s).ppu.fb = s.ppu.fb ∧ (ppuTransition s).ppu.bgi = s.ppu.bgi ∧
    (ppuTransition s).ppu.winLine = if s.ppu.mode = .vBlank ∧ 153 ≤ s.ppu.line then 0 else s.ppu.winLine := by
  unfold ppuTransition
  dsimp only
  split
  · next hm => simp [hm]
  · next hm => exact absurd hm h
  · next hm => split <;> simp [hm]
  · next hm =>
    split
    · next hl => simp [hm, Nat.lt_succ_iff.1 hl]
    · next hl => simp [hm, show ¬ 153 ≤ s.ppu.line by omega]

/-- A transition takes its mode's cycles from the accumulator. -/
theorem ppuTransition_acc (s : State) : (ppuTransition s).ppu.acc = s.ppu.acc - s.ppu.mode.duration := by
  unfold ppuTransition
  dsimp only
  split
  · simp
  · simp
  · split <;> simp
  · split <;> simp

theorem PpuMode.duration_ge (m : PpuMode) : 80 ≤ m.duration := by
  cases m <;> decide

/-- Rounds beyond those the accumulator can need change nothing (log 14). -/
theorem ppuLoop_enough {m n : Nat} {s : State} (hm : s.ppu.acc < 80 * m) (hn : s.ppu.acc < 80 * n) :
    ppuLoop m s = ppuLoop n s := by
  induction m generalizing n s with
  | zero => omega
  | succ m ih =>
    cases n with
    | zero => omega
    | succ n =>
      unfold ppuLoop
      split
      · rfl
      · have := s.ppu.mode.duration_ge
        exact ih (by rw [ppuTransition_acc]; omega) (by rw [ppuTransition_acc]; omega)

theorem ppuLoop_frame (n : Nat) (s : State) : PpuFrame s (ppuLoop n s) := by
  induction n generalizing s with
  | zero => rfl
  | succ n ih =>
    unfold ppuLoop
    split
    · rfl
    · exact (ppuTransition_frame s).trans (ih _)

/-- What `PpuStep` can change. -/
theorem ppuStep_frame (c : Nat) (s : State) : PpuFrame s (ppuStep c s) := by
  unfold ppuStep
  split
  · exact (PpuFrame.ppu s _).trans (ppuLoop_frame _ _)
  · exact lcdOffReset_frame s

/-! ### Joypad -/

/-- What the joypad update leaves (R362). -/
theorem joypadUpdate_frame (s : State) : ∃ ifr, joypadUpdate s =
    { s with io := { s.io with p1 := p1Value s.joypad.btn s.io.p1, ifr := ifr },
             joypad := ⟨s.joypad.btn, s.joypad.btn⟩ } := by
  unfold joypadUpdate
  dsimp only
  split <;> exact ⟨_, rfl⟩

end Sys2Proof.Machine
end

