-- ==== Sys2Proof/Laws/Exec.lean ====
section
/-! SUPPORT. Everything an instruction can do, said once: one lemma per shared operation, then one lemma over all
instructions that later proofs cite instead of unfolding `exec`. -/

namespace Sys2Proof.Machine

/-- The counts an instruction can return (R321). -/
def cycleCounts : List Nat := [4, 8, 12, 16, 20, 24]

/-- The state after bytes were stored at addresses, in order. -/
def applyStores : State → List Word → List Byte → State
  | s, a :: as, v :: vs => applyStores (busWrite s a v) as vs
  | s, _, _ => s

/-- `r` is a next state: bytes stored at `addrs`, a new CPU that kept `cpu_fault` and whose F is the old one or has a zero
low nibble, a cycle count. -/
def Completes (s : State) (addrs : List Word) (r : Result) : Prop :=
  ∃ (vs : List Byte) (c : Cpu) (n : Nat), vs.length = addrs.length ∧
    r = .next ((applyStores s addrs vs).withCpu c n) ∧ n ∈ cycleCounts ∧
    (c.f = s.cpu.f ∨ c.f &&& 0x0F = 0) ∧ c.fault = s.cpu.fault

/-! ### F -/

@[simp] theorem mkFlags_low (z n h c : Bool) : mkFlags z n h c &&& 0x0F = 0 := by
  cases z <;> cases n <;> cases h <;> cases c <;> rfl

@[simp] theorem flagZ_mkFlags (z n h c : Bool) : flagZ (mkFlags z n h c) = z := by
  cases z <;> cases n <;> cases h <;> cases c <;> rfl

@[simp] theorem flagN_mkFlags (z n h c : Bool) : flagN (mkFlags z n h c) = n := by
  cases z <;> cases n <;> cases h <;> cases c <;> rfl

@[simp] theorem flagH_mkFlags (z n h c : Bool) : flagH (mkFlags z n h c) = h := by
  cases z <;> cases n <;> cases h <;> cases c <;> rfl

@[simp] theorem flagC_mkFlags (z n h c : Bool) : flagC (mkFlags z n h c) = c := by
  cases z <;> cases n <;> cases h <;> cases c <;> rfl

/-- The flags `mkFlags` builds are the four it is given. -/
theorem flagsAre_mkFlags (z n h c : Bool) : FlagsAre (mkFlags z n h c) z n h c := by
  cases z <;> cases n <;> cases h <;> cases c <;> exact ⟨rfl, rfl, rfl, rfl, rfl⟩

theorem f0_low (b : Byte) : (b &&& 0xF0) &&& 0x0F = 0 := by
  rw [BitVec.and_assoc]
  exact BitVec.and_zero

theorem alu_flags_low (op : AluOp) (a b f : Byte) : (alu op a b f).flags &&& 0x0F = 0 := by
  cases op <;> exact mkFlags_low _ _ _ _

theorem daa_flags_low (a f : Byte) : (daa a f).flags &&& 0x0F = 0 := by
  unfold daa
  split <;> exact mkFlags_low _ _ _ _

/-! ### Stores -/

/-- `Push16` is two bus writes and an SP lower by two (R12). -/
theorem push_eq (s : State) (v : Word) :
    s.push v = (busWrite (busWrite s (s.cpu.sp - 1) (hiByte v)) (s.cpu.sp - 2) (loByte v)).withCpu
      { s.cpu with sp := s.cpu.sp - 2 } s.cycles := by
  have e : s.cpu.sp - 1 - 1 = s.cpu.sp - 2 := by
    rw [BitVec.sub_sub]
    rfl
  have h1 (t : State) (w : Word) : t.setSp w = t.withCpu { t.cpu with sp := w } t.cycles := rfl
  unfold State.push
  dsimp only
  rw [h1 s, busWrite_withCpu, h1, withCpu_cpu, withCpu_cycles, withCpu_withCpu, withCpu_cpu, busWrite_withCpu, withCpu_cpu, e]

theorem completes_plain {s : State} {c : Cpu} {n : Nat} {r : Result} (hr : r = .next (s.withCpu c n))
    (hn : n ∈ cycleCounts) (hf : c.f = s.cpu.f ∨ c.f &&& 0x0F = 0) (hx : c.fault = s.cpu.fault) : Completes s [] r :=
  ⟨[], c, n, rfl, hr, hn, hf, hx⟩

theorem completes_store {s : State} {a : Word} {v : Byte} {c : Cpu} {n : Nat} {r : Result}
    (hr : r = .next ((busWrite s a v).withCpu c n)) (hn : n ∈ cycleCounts) (hf : c.f = s.cpu.f ∨ c.f &&& 0x0F = 0)
    (hx : c.fault = s.cpu.fault) : Completes s [a] r := ⟨[v], c, n, rfl, hr, hn, hf, hx⟩

theorem completes_store2 {s : State} {a b : Word} {v w : Byte} {c : Cpu} {n : Nat} {r : Result}
    (hr : r = .next ((busWrite (busWrite s a v) b w).withCpu c n)) (hn : n ∈ cycleCounts)
    (hf : c.f = s.cpu.f ∨ c.f &&& 0x0F = 0) (hx : c.fault = s.cpu.fault) : Completes s [a, b] r :=
  ⟨[v, w], c, n, rfl, hr, hn, hf, hx⟩

/-! ### One lemma per shared operation: its next state, then that it completes -/

theorem busRead_top_withCpu (s : State) (c : Cpu) (n : Nat) (h : c.sp = s.cpu.sp) : (s.withCpu c n).top = s.top := by
  unfold State.top
  rw [busRead_withCpu, busRead_withCpu, withCpu_cpu, h]

theorem loadReg_eq (r : Reg8) (v : Byte) (len cyc : Nat) (s : State) :
    loadReg r v len cyc s = .next (s.withCpu { s.cpu.setReg r v with pc := s.cpu.pc + BitVec.ofNat 16 len } cyc) := by
  cases r <;> rfl

theorem storeTo_eq (a : Word) (v : Byte) (len cyc : Nat) (s : State) :
    storeTo a v len cyc s =
      .next ((busWrite s a v).withCpu { s.cpu with pc := s.cpu.pc + BitVec.ofNat 16 len } cyc) := by
  have h : s.advance len = s.withCpu { s.cpu with pc := s.cpu.pc + BitVec.ofNat 16 len } s.cycles := rfl
  unfold storeTo
  rw [h, busWrite_withCpu]
  rfl

theorem storeStep_eq (d : Word) (s : State) :
    storeStep d s = .next ((busWrite s (s.cpu.pair .hl) (s.cpu.reg .a)).withCpu
      { s.cpu.setPair .hl (s.cpu.pair .hl + d) with pc := s.cpu.pc + 1 } 8) := by
  have h : s.advance 1 = s.withCpu { s.cpu with pc := s.cpu.pc + 1 } s.cycles := rfl
  unfold storeStep
  rw [h, busWrite_withCpu]
  rfl

theorem loadStep_eq (d : Word) (s : State) :
    loadStep d s = .next (s.withCpu
      { (s.cpu.setReg .a (busRead s (s.cpu.pair .hl))).setPair .hl (s.cpu.pair .hl + d) with pc := s.cpu.pc + 1 } 8) := rfl

theorem loadPair_eq (p : Pair) (v : Word) (len cyc : Nat) (s : State) :
    loadPair p v len cyc s =
      .next (s.withCpu { s.cpu.setPair p v with pc := s.cpu.pc + BitVec.ofNat 16 len } cyc) := by
  cases p <;> rfl

theorem storeSp_eq (a : Word) (s : State) :
    storeSp a s = .next ((busWrite (busWrite s a (loByte s.cpu.sp)) (a + 1) (hiByte s.cpu.sp)).withCpu
      { s.cpu with pc := s.cpu.pc + 3 } 20) := by
  have h : s.advance 3 = s.withCpu { s.cpu with pc := s.cpu.pc + 3 } s.cycles := rfl
  unfold storeSp
  rw [h, busWrite_withCpu, busWrite_withCpu]
  rfl

theorem pushStk_eq (p : StkPair) (s : State) :
    pushStk p s = .next ((busWrite (busWrite s (s.cpu.sp - 1) (hiByte (s.cpu.stk p))) (s.cpu.sp - 2)
      (loByte (s.cpu.stk p))).withCpu { s.cpu with sp := s.cpu.sp - 2, pc := s.cpu.pc + 1 } 16) := by
  have h : s.advance 1 = s.withCpu { s.cpu with pc := s.cpu.pc + 1 } s.cycles := rfl
  unfold pushStk
  rw [h, push_eq, busWrite_withCpu, busWrite_withCpu]
  rfl

theorem popStk_eq (p : StkPair) (s : State) :
    popStk p s = .next (s.withCpu { s.cpu.setStk p s.top with sp := s.cpu.sp + 2, pc := s.cpu.pc + 1 } 12) := by
  cases p <;> rfl

theorem aluWith_eq (op : AluOp) (b : Byte) (len cyc : Nat) (s : State) :
    aluWith op b len cyc s = .next (s.withCpu { s.cpu with
      a := (alu op s.cpu.a b s.cpu.f).value, f := (alu op s.cpu.a b s.cpu.f).flags,
      pc := s.cpu.pc + BitVec.ofNat 16 len } cyc) := rfl

theorem updateReg_eq (dst : Reg8) (r : Flagged) (len cyc : Nat) (s : State) :
    updateReg dst r len cyc s = .next (s.withCpu { s.cpu.setReg dst r.value with
      f := r.flags, pc := s.cpu.pc + BitVec.ofNat 16 len } cyc) := by
  cases dst <;> rfl

theorem updateIndHl_eq (r : Flagged) (len cyc : Nat) (s : State) :
    updateIndHl r len cyc s = .next ((busWrite s (s.cpu.pair .hl) r.value).withCpu { s.cpu with
      f := r.flags, pc := s.cpu.pc + BitVec.ofNat 16 len } cyc) := by
  have h : (s.advance len).setF r.flags =
    s.withCpu { s.cpu with f := r.flags, pc := s.cpu.pc + BitVec.ofNat 16 len } s.cycles := rfl
  unfold updateIndHl
  rw [h, busWrite_withCpu]
  rfl

theorem stepPair_eq (p : Pair) (d : Word) (s : State) :
    stepPair p d s = .next (s.withCpu { s.cpu.setPair p (s.cpu.pair p + d) with pc := s.cpu.pc + 1 } 8) := by
  cases p <;> rfl

theorem addHl_eq (p : Pair) (s : State) :
    addHl p s = .next (s.withCpu { s.cpu.setPair .hl (s.cpu.pair .hl + s.cpu.pair p) with
      f := addHlFlags (s.cpu.pair .hl) (s.cpu.pair p) s.cpu.f, pc := s.cpu.pc + 1 } 8) := rfl

theorem jumpAbs_eq (k : Bool) (a : Word) (s : State) :
    jumpAbs k a s = .next (s.withCpu { s.cpu with pc := if k then a else s.cpu.pc + 3 } (if k then 16 else 12)) := by
  cases k <;> rfl

theorem jumpRel_eq (k : Bool) (e : Byte) (s : State) :
    jumpRel k e s = .next (s.withCpu { s.cpu with pc := if k then s.cpu.pc + 2 + sext16 e else s.cpu.pc + 2 }
      (if k then 12 else 8)) := by
  cases k <;> rfl

theorem callAbs_eq (k : Bool) (a : Word) (s : State) :
    callAbs k a s =
      if k then .next ((busWrite (busWrite s (s.cpu.sp - 1) (hiByte (s.cpu.pc + 3))) (s.cpu.sp - 2)
        (loByte (s.cpu.pc + 3))).withCpu { s.cpu with sp := s.cpu.sp - 2, pc := a } 24)
      else .next (s.withCpu { s.cpu with pc := s.cpu.pc + 3 } 12) := by
  have h : s.advance 3 = s.withCpu { s.cpu with pc := s.cpu.pc + 3 } s.cycles := rfl
  unfold callAbs
  rw [h]
  dsimp only
  cases k with
  | false => rfl
  | true =>
    simp only [if_true]
    rw [push_eq, busWrite_withCpu, busWrite_withCpu]
    rfl

theorem restart_eq (a : Word) (s : State) :
    restart a s = .next ((busWrite (busWrite s (s.cpu.sp - 1) (hiByte (s.cpu.pc + 1))) (s.cpu.sp - 2)
      (loByte (s.cpu.pc + 1))).withCpu { s.cpu with sp := s.cpu.sp - 2, pc := a } 16) := by
  have h : s.advance 1 = s.withCpu { s.cpu with pc := s.cpu.pc + 1 } s.cycles := rfl
  unfold restart
  rw [h]
  dsimp only
  rw [push_eq, busWrite_withCpu, busWrite_withCpu]
  rfl

theorem retCond_eq (k : Bool) (s : State) :
    retCond k s = .next (s.withCpu (if k then { s.cpu with sp := s.cpu.sp + 2, pc := s.top }
      else { s.cpu with pc := s.cpu.pc + 1 }) (if k then 20 else 8)) := by
  cases k <;> rfl

theorem ret_eq (s : State) : (s.advance 1).ret.retire 16 = .next (s.withCpu { s.cpu with sp := s.cpu.sp + 2, pc := s.top } 16) :=
  rfl

theorem reti_eq (s : State) : (returnFromInterrupt (s.advance 1)).retire 16 =
    .next (s.withCpu { s.cpu with sp := s.cpu.sp + 2, pc := s.top, ime := true } 16) := by
  have h : (s.advance 1).top = s.top := busRead_top_withCpu s _ s.cycles rfl
  unfold returnFromInterrupt
  rw [h]
  rfl

theorem testBit_eq (n : Fin 8) (v : Byte) (cyc : Nat) (s : State) :
    testBit n v cyc s = .next (s.withCpu { s.cpu with f := bitFlags n v s.cpu.f, pc := s.cpu.pc + 2 } cyc) := rfl

/-- The interrupt entry, written out (R334). -/
theorem dispatchInterrupt_eq (k : Irq) (s : State) :
    dispatchInterrupt k s = .next ((busWrite (busWrite (s.setIo .ifr (s.io.ifr &&& ~~~k.mask)) (s.cpu.sp - 1)
      (hiByte s.cpu.pc)) (s.cpu.sp - 2) (loByte s.cpu.pc)).withCpu { s.cpu with
        sp := s.cpu.sp - 2, pc := k.vector, ime := false, imePending := false, halted := false } 20) := by
  have h : ({ s.setIo .ifr (s.io.ifr &&& ~~~k.mask) with
      cpu := { s.cpu with ime := false, imePending := false, halted := false } } : State) =
    (s.setIo .ifr (s.io.ifr &&& ~~~k.mask)).withCpu
      { s.cpu with ime := false, imePending := false, halted := false } s.cycles := rfl
  unfold dispatchInterrupt
  dsimp only [State.setIo_cpu]
  rw [h, push_eq, busWrite_withCpu, busWrite_withCpu]
  rfl

/-! ### Completion of the shared operations -/

theorem loadReg_completes (r : Reg8) (v : Byte) (len cyc : Nat) (s : State) (h : cyc ∈ cycleCounts) :
    Completes s [] (loadReg r v len cyc s) :=
  completes_plain (loadReg_eq ..) h (.inl (Cpu.setReg_f ..)) (Cpu.setReg_fault ..)

theorem storeTo_completes (a : Word) (v : Byte) (len cyc : Nat) (s : State) (h : cyc ∈ cycleCounts) :
    Completes s [a] (storeTo a v len cyc s) := completes_store (storeTo_eq ..) h (.inl rfl) rfl

theorem storeStep_completes (d : Word) (s : State) : Completes s [s.cpu.pair .hl] (storeStep d s) :=
  completes_store (storeStep_eq ..) (by decide) (.inl rfl) rfl

theorem loadStep_completes (d : Word) (s : State) : Completes s [] (loadStep d s) :=
  completes_plain (loadStep_eq ..) (by decide) (.inl rfl) rfl

theorem loadPair_completes (p : Pair) (v : Word) (len cyc : Nat) (s : State) (h : cyc ∈ cycleCounts) :
    Completes s [] (loadPair p v len cyc s) :=
  completes_plain (loadPair_eq ..) h (.inl (Cpu.setPair_f ..)) (Cpu.setPair_fault ..)

theorem storeSp_completes (a : Word) (s : State) : Completes s [a, a + 1] (storeSp a s) :=
  completes_store2 (storeSp_eq ..) (by decide) (.inl rfl) rfl

theorem loadHlSp_completes (e : Byte) (s : State) : Completes s [] (loadHlSp e s) :=
  completes_plain (c := { s.cpu.setPair .hl (s.cpu.sp + sext16 e) with
    f := addSpFlags s.cpu.sp e, pc := s.cpu.pc + 2 }) rfl (by decide) (.inr (mkFlags_low ..)) rfl

theorem pushStk_completes (p : StkPair) (s : State) : Completes s [s.cpu.sp - 1, s.cpu.sp - 2] (pushStk p s) :=
  completes_store2 (pushStk_eq ..) (by decide) (.inl rfl) rfl

theorem popStk_completes (p : StkPair) (s : State) : Completes s [] (popStk p s) := by
  refine completes_plain (popStk_eq ..) (by decide) ?_ ?_
  · cases p
    case af => exact .inr (f0_low _)
    all_goals exact .inl rfl
  · cases p <;> rfl

theorem aluWith_completes (op : AluOp) (b : Byte) (len cyc : Nat) (s : State) (h : cyc ∈ cycleCounts) :
    Completes s [] (aluWith op b len cyc s) :=
  completes_plain (aluWith_eq ..) h (.inr (alu_flags_low ..)) rfl

theorem updateReg_completes (dst : Reg8) (r : Flagged) (len cyc : Nat) (s : State) (h : cyc ∈ cycleCounts)
    (hf : r.flags &&& 0x0F = 0) : Completes s [] (updateReg dst r len cyc s) :=
  completes_plain (updateReg_eq ..) h (.inr hf) (Cpu.setReg_fault ..)

theorem updateIndHl_completes (r : Flagged) (len cyc : Nat) (s : State) (h : cyc ∈ cycleCounts)
    (hf : r.flags &&& 0x0F = 0) : Completes s [s.cpu.pair .hl] (updateIndHl r len cyc s) :=
  completes_store (updateIndHl_eq ..) h (.inr hf) rfl

theorem stepPair_completes (p : Pair) (d : Word) (s : State) : Completes s [] (stepPair p d s) :=
  completes_plain (stepPair_eq ..) (by decide) (.inl (Cpu.setPair_f ..)) (Cpu.setPair_fault ..)

theorem addHl_completes (p : Pair) (s : State) : Completes s [] (addHl p s) :=
  completes_plain (addHl_eq ..) (by decide) (.inr (mkFlags_low ..)) rfl

theorem addSp_completes (e : Byte) (s : State) : Completes s [] (addSp e s) :=
  completes_plain (c := { s.cpu with sp := s.cpu.sp + sext16 e, f := addSpFlags s.cpu.sp e, pc := s.cpu.pc + 2 })
    rfl (by decide) (.inr (mkFlags_low ..)) rfl

theorem flagsOnly_completes (f : Byte) (s : State) (hf : f &&& 0x0F = 0) : Completes s [] (flagsOnly f s) :=
  completes_plain (c := { s.cpu with f := f, pc := s.cpu.pc + 1 }) rfl (by decide) (.inr hf) rfl

theorem jumpAbs_completes (k : Bool) (a : Word) (s : State) : Completes s [] (jumpAbs k a s) :=
  completes_plain (jumpAbs_eq ..) (by cases k <;> decide) (.inl rfl) rfl

theorem jumpRel_completes (k : Bool) (e : Byte) (s : State) : Completes s [] (jumpRel k e s) :=
  completes_plain (jumpRel_eq ..) (by cases k <;> decide) (.inl rfl) rfl

theorem callAbs_completes (k : Bool) (a : Word) (s : State) :
    Completes s (if k then [s.cpu.sp - 1, s.cpu.sp - 2] else []) (callAbs k a s) := by
  cases k
  · exact completes_plain (callAbs_eq ..) (by decide) (.inl rfl) rfl
  · exact completes_store2 (callAbs_eq ..) (by decide) (.inl rfl) rfl

theorem restart_completes (a : Word) (s : State) : Completes s [s.cpu.sp - 1, s.cpu.sp - 2] (restart a s) :=
  completes_store2 (restart_eq ..) (by decide) (.inl rfl) rfl

theorem retCond_completes (k : Bool) (s : State) : Completes s [] (retCond k s) :=
  completes_plain (retCond_eq ..) (by cases k <;> decide) (by cases k <;> exact .inl rfl) (by cases k <;> rfl)

theorem testBit_completes (n : Fin 8) (v : Byte) (cyc : Nat) (s : State) (h : cyc ∈ cycleCounts) :
    Completes s [] (testBit n v cyc s) := completes_plain (testBit_eq ..) h (.inr (mkFlags_low ..)) rfl

/-- An instruction that writes no byte and only control fields or PC of the CPU. -/
theorem completes_control {s : State} {c : Cpu} {n : Nat} (hn : n ∈ cycleCounts) (hf : c.f = s.cpu.f)
    (hx : c.fault = s.cpu.fault) : Completes s [] (.next (s.withCpu c n)) := completes_plain rfl hn (.inl hf) hx

theorem ret_completes (s : State) : Completes s [] ((s.advance 1).ret.retire 16) :=
  completes_plain (ret_eq s) (by decide) (.inl rfl) rfl

theorem reti_completes (s : State) : Completes s [] ((returnFromInterrupt (s.advance 1)).retire 16) :=
  completes_plain (reti_eq s) (by decide) (.inl rfl) rfl

/-! ### All instructions -/

/-- Every defined instruction completes, storing at `storeAddrs` and nowhere else (R327, R341). -/
theorem exec_completes (i : Instr) (s : State) (h : WellFormed i) : Completes s (storeAddrs i s) (exec i s) := by
  cases i with
  | nop => exact completes_control (c := { s.cpu with pc := s.cpu.pc + 1 }) (n := 4) (by decide) rfl rfl
  | ldBcN16 n => exact loadPair_completes _ _ _ _ s (by decide)
  | ldIndBcA => exact storeTo_completes _ _ _ _ s (by decide)
  | incBc => exact stepPair_completes _ _ s
  | incB => exact updateReg_completes _ _ _ _ s (by decide) (mkFlags_low ..)
  | decB => exact updateReg_completes _ _ _ _ s (by decide) (mkFlags_low ..)
  | ldBN8 n => exact loadReg_completes _ _ _ _ s (by decide)
  | rlca => exact updateReg_completes _ _ _ _ s (by decide) (mkFlags_low ..)
  | ldIndA16Sp n => exact storeSp_completes n s
  | addHlBc => exact addHl_completes _ s
  | ldAIndBc => exact loadReg_completes _ _ _ _ s (by decide)
  | decBc => exact stepPair_completes _ _ s
  | incC => exact updateReg_completes _ _ _ _ s (by decide) (mkFlags_low ..)
  | decC => exact updateReg_completes _ _ _ _ s (by decide) (mkFlags_low ..)
  | ldCN8 n => exact loadReg_completes _ _ _ _ s (by decide)
  | rrca => exact updateReg_completes _ _ _ _ s (by decide) (mkFlags_low ..)
  | stop n => exact completes_control (c := { s.cpu with pc := s.cpu.pc + 2, stopped := true }) (n := 4) (by decide) rfl rfl
  | ldDeN16 n => exact loadPair_completes _ _ _ _ s (by decide)
  | ldIndDeA => exact storeTo_completes _ _ _ _ s (by decide)
  | incDe => exact stepPair_completes _ _ s
  | incD => exact updateReg_completes _ _ _ _ s (by decide) (mkFlags_low ..)
  | decD => exact updateReg_completes _ _ _ _ s (by decide) (mkFlags_low ..)
  | ldDN8 n => exact loadReg_completes _ _ _ _ s (by decide)
  | rla => exact updateReg_completes _ _ _ _ s (by decide) (mkFlags_low ..)
  | jrE8 n => exact jumpRel_completes true n s
  | addHlDe => exact addHl_completes _ s
  | ldAIndDe => exact loadReg_completes _ _ _ _ s (by decide)
  | decDe => exact stepPair_completes _ _ s
  | incE => exact updateReg_completes _ _ _ _ s (by decide) (mkFlags_low ..)
  | decE => exact updateReg_completes _ _ _ _ s (by decide) (mkFlags_low ..)
  | ldEN8 n => exact loadReg_completes _ _ _ _ s (by decide)
  | rra => exact updateReg_completes _ _ _ _ s (by decide) (mkFlags_low ..)
  | jrNzE8 n => exact jumpRel_completes _ n s
  | ldHlN16 n => exact loadPair_completes _ _ _ _ s (by decide)
  | ldIndHliA => exact storeStep_completes _ s
  | incHl => exact stepPair_completes _ _ s
  | incH => exact updateReg_completes _ _ _ _ s (by decide) (mkFlags_low ..)
  | decH => exact updateReg_completes _ _ _ _ s (by decide) (mkFlags_low ..)
  | ldHN8 n => exact loadReg_completes _ _ _ _ s (by decide)
  | daa => exact updateReg_completes _ _ _ _ s (by decide) (daa_flags_low ..)
  | jrZE8 n => exact jumpRel_completes _ n s
  | addHlHl => exact addHl_completes _ s
  | ldAIndHli => exact loadStep_completes _ s
  | decHl => exact stepPair_completes _ _ s
  | incL => exact updateReg_completes _ _ _ _ s (by decide) (mkFlags_low ..)
  | decL => exact updateReg_completes _ _ _ _ s (by decide) (mkFlags_low ..)
  | ldLN8 n => exact loadReg_completes _ _ _ _ s (by decide)
  | cpl => exact updateReg_completes _ _ _ _ s (by decide) (mkFlags_low ..)
  | jrNcE8 n => exact jumpRel_completes _ n s
  | ldSpN16 n => exact loadPair_completes _ _ _ _ s (by decide)
  | ldIndHldA => exact storeStep_completes _ s
  | incSp => exact stepPair_completes _ _ s
  | incIndHl => exact updateIndHl_completes _ _ _ s (by decide) (mkFlags_low ..)
  | decIndHl => exact updateIndHl_completes _ _ _ s (by decide) (mkFlags_low ..)
  | ldIndHlN8 n => exact storeTo_completes _ _ _ _ s (by decide)
  | scf => exact flagsOnly_completes _ s (mkFlags_low ..)
  | jrCE8 n => exact jumpRel_completes _ n s
  | addHlSp => exact addHl_completes _ s
  | ldAIndHld => exact loadStep_completes _ s
  | decSp => exact stepPair_completes _ _ s
  | incA => exact updateReg_completes _ _ _ _ s (by decide) (mkFlags_low ..)
  | decA => exact updateReg_completes _ _ _ _ s (by decide) (mkFlags_low ..)
  | ldAN8 n => exact loadReg_completes _ _ _ _ s (by decide)
  | ccf => exact flagsOnly_completes _ s (mkFlags_low ..)
  | ldBB => exact loadReg_completes _ _ _ _ s (by decide)
  | ldBC => exact loadReg_completes _ _ _ _ s (by decide)
  | ldBD => exact loadReg_completes _ _ _ _ s (by decide)
  | ldBE => exact loadReg_completes _ _ _ _ s (by decide)
  | ldBH => exact loadReg_completes _ _ _ _ s (by decide)
  | ldBL => exact loadReg_completes _ _ _ _ s (by decide)
  | ldBIndHl => exact loadReg_completes _ _ _ _ s (by decide)
  | ldBA => exact loadReg_completes _ _ _ _ s (by decide)
  | ldCB => exact loadReg_completes _ _ _ _ s (by decide)
  | ldCC => exact loadReg_completes _ _ _ _ s (by decide)
  | ldCD => exact loadReg_completes _ _ _ _ s (by decide)
  | ldCE => exact loadReg_completes _ _ _ _ s (by decide)
  | ldCH => exact loadReg_completes _ _ _ _ s (by decide)
  | ldCL => exact loadReg_completes _ _ _ _ s (by decide)
  | ldCIndHl => exact loadReg_completes _ _ _ _ s (by decide)
  | ldCA => exact loadReg_completes _ _ _ _ s (by decide)
  | ldDB => exact loadReg_completes _ _ _ _ s (by decide)
  | ldDC => exact loadReg_completes _ _ _ _ s (by decide)
  | ldDD => exact loadReg_completes _ _ _ _ s (by decide)
  | ldDE => exact loadReg_completes _ _ _ _ s (by decide)
  | ldDH => exact loadReg_completes _ _ _ _ s (by decide)
  | ldDL => exact loadReg_completes _ _ _ _ s (by decide)
  | ldDIndHl => exact loadReg_completes _ _ _ _ s (by decide)
  | ldDA => exact loadReg_completes _ _ _ _ s (by decide)
  | ldEB => exact loadReg_completes _ _ _ _ s (by decide)
  | ldEC => exact loadReg_completes _ _ _ _ s (by decide)
  | ldED => exact loadReg_completes _ _ _ _ s (by decide)
  | ldEE => exact loadReg_completes _ _ _ _ s (by decide)
  | ldEH => exact loadReg_completes _ _ _ _ s (by decide)
  | ldEL => exact loadReg_completes _ _ _ _ s (by decide)
  | ldEIndHl => exact loadReg_completes _ _ _ _ s (by decide)
  | ldEA => exact loadReg_completes _ _ _ _ s (by decide)
  | ldHB => exact loadReg_completes _ _ _ _ s (by decide)
  | ldHC => exact loadReg_completes _ _ _ _ s (by decide)
  | ldHD => exact loadReg_completes _ _ _ _ s (by decide)
  | ldHE => exact loadReg_completes _ _ _ _ s (by decide)
  | ldHH => exact loadReg_completes _ _ _ _ s (by decide)
  | ldHL => exact loadReg_completes _ _ _ _ s (by decide)
  | ldHIndHl => exact loadReg_completes _ _ _ _ s (by decide)
  | ldHA => exact loadReg_completes _ _ _ _ s (by decide)
  | ldLB => exact loadReg_completes _ _ _ _ s (by decide)
  | ldLC => exact loadReg_completes _ _ _ _ s (by decide)
  | ldLD => exact loadReg_completes _ _ _ _ s (by decide)
  | ldLE => exact loadReg_completes _ _ _ _ s (by decide)
  | ldLH => exact loadReg_completes _ _ _ _ s (by decide)
  | ldLL => exact loadReg_completes _ _ _ _ s (by decide)
  | ldLIndHl => exact loadReg_completes _ _ _ _ s (by decide)
  | ldLA => exact loadReg_completes _ _ _ _ s (by decide)
  | ldIndHlB => exact storeTo_completes _ _ _ _ s (by decide)
  | ldIndHlC => exact storeTo_completes _ _ _ _ s (by decide)
  | ldIndHlD => exact storeTo_completes _ _ _ _ s (by decide)
  | ldIndHlE => exact storeTo_completes _ _ _ _ s (by decide)
  | ldIndHlH => exact storeTo_completes _ _ _ _ s (by decide)
  | ldIndHlL => exact storeTo_completes _ _ _ _ s (by decide)
  | halt => exact completes_control (c := { s.cpu with pc := s.cpu.pc + 1, halted := true }) (n := 4) (by decide) rfl rfl
  | ldIndHlA => exact storeTo_completes _ _ _ _ s (by decide)
  | ldAB => exact loadReg_completes _ _ _ _ s (by decide)
  | ldAC => exact loadReg_completes _ _ _ _ s (by decide)
  | ldAD => exact loadReg_completes _ _ _ _ s (by decide)
  | ldAE => exact loadReg_completes _ _ _ _ s (by decide)
  | ldAH => exact loadReg_completes _ _ _ _ s (by decide)
  | ldAL => exact loadReg_completes _ _ _ _ s (by decide)
  | ldAIndHl => exact loadReg_completes _ _ _ _ s (by decide)
  | ldAA => exact loadReg_completes _ _ _ _ s (by decide)
  | addAB => exact aluWith_completes _ _ _ _ s (by decide)
  | addAC => exact aluWith_completes _ _ _ _ s (by decide)
  | addAD => exact aluWith_completes _ _ _ _ s (by decide)
  | addAE => exact aluWith_completes _ _ _ _ s (by decide)
  | addAH => exact aluWith_completes _ _ _ _ s (by decide)
  | addAL => exact aluWith_completes _ _ _ _ s (by decide)
  | addAIndHl => exact aluWith_completes _ _ _ _ s (by decide)
  | addAA => exact aluWith_completes _ _ _ _ s (by decide)
  | adcAB => exact aluWith_completes _ _ _ _ s (by decide)
  | adcAC => exact aluWith_completes _ _ _ _ s (by decide)
  | adcAD => exact aluWith_completes _ _ _ _ s (by decide)
  | adcAE => exact aluWith_completes _ _ _ _ s (by decide)
  | adcAH => exact aluWith_completes _ _ _ _ s (by decide)
  | adcAL => exact aluWith_completes _ _ _ _ s (by decide)
  | adcAIndHl => exact aluWith_completes _ _ _ _ s (by decide)
  | adcAA => exact aluWith_completes _ _ _ _ s (by decide)
  | subAB => exact aluWith_completes _ _ _ _ s (by decide)
  | subAC => exact aluWith_completes _ _ _ _ s (by decide)
  | subAD => exact aluWith_completes _ _ _ _ s (by decide)
  | subAE => exact aluWith_completes _ _ _ _ s (by decide)
  | subAH => exact aluWith_completes _ _ _ _ s (by decide)
  | subAL => exact aluWith_completes _ _ _ _ s (by decide)
  | subAIndHl => exact aluWith_completes _ _ _ _ s (by decide)
  | subAA => exact aluWith_completes _ _ _ _ s (by decide)
  | sbcAB => exact aluWith_completes _ _ _ _ s (by decide)
  | sbcAC => exact aluWith_completes _ _ _ _ s (by decide)
  | sbcAD => exact aluWith_completes _ _ _ _ s (by decide)
  | sbcAE => exact aluWith_completes _ _ _ _ s (by decide)
  | sbcAH => exact aluWith_completes _ _ _ _ s (by decide)
  | sbcAL => exact aluWith_completes _ _ _ _ s (by decide)
  | sbcAIndHl => exact aluWith_completes _ _ _ _ s (by decide)
  | sbcAA => exact aluWith_completes _ _ _ _ s (by decide)
  | andAB => exact aluWith_completes _ _ _ _ s (by decide)
  | andAC => exact aluWith_completes _ _ _ _ s (by decide)
  | andAD => exact aluWith_completes _ _ _ _ s (by decide)
  | andAE => exact aluWith_completes _ _ _ _ s (by decide)
  | andAH => exact aluWith_completes _ _ _ _ s (by decide)
  | andAL => exact aluWith_completes _ _ _ _ s (by decide)
  | andAIndHl => exact aluWith_completes _ _ _ _ s (by decide)
  | andAA => exact aluWith_completes _ _ _ _ s (by decide)
  | xorAB => exact aluWith_completes _ _ _ _ s (by decide)
  | xorAC => exact aluWith_completes _ _ _ _ s (by decide)
  | xorAD => exact aluWith_completes _ _ _ _ s (by decide)
  | xorAE => exact aluWith_completes _ _ _ _ s (by decide)
  | xorAH => exact aluWith_completes _ _ _ _ s (by decide)
  | xorAL => exact aluWith_completes _ _ _ _ s (by decide)
  | xorAIndHl => exact aluWith_completes _ _ _ _ s (by decide)
  | xorAA => exact aluWith_completes _ _ _ _ s (by decide)
  | orAB => exact aluWith_completes _ _ _ _ s (by decide)
  | orAC => exact aluWith_completes _ _ _ _ s (by decide)
  | orAD => exact aluWith_completes _ _ _ _ s (by decide)
  | orAE => exact aluWith_completes _ _ _ _ s (by decide)
  | orAH => exact aluWith_completes _ _ _ _ s (by decide)
  | orAL => exact aluWith_completes _ _ _ _ s (by decide)
  | orAIndHl => exact aluWith_completes _ _ _ _ s (by decide)
  | orAA => exact aluWith_completes _ _ _ _ s (by decide)
  | cpAB => exact aluWith_completes _ _ _ _ s (by decide)
  | cpAC => exact aluWith_completes _ _ _ _ s (by decide)
  | cpAD => exact aluWith_completes _ _ _ _ s (by decide)
  | cpAE => exact aluWith_completes _ _ _ _ s (by decide)
  | cpAH => exact aluWith_completes _ _ _ _ s (by decide)
  | cpAL => exact aluWith_completes _ _ _ _ s (by decide)
  | cpAIndHl => exact aluWith_completes _ _ _ _ s (by decide)
  | cpAA => exact aluWith_completes _ _ _ _ s (by decide)
  | retNz => exact retCond_completes _ s
  | popBc => exact popStk_completes _ s
  | jpNzA16 n => exact jumpAbs_completes _ n s
  | jpA16 n => exact jumpAbs_completes true n s
  | callNzA16 n => exact callAbs_completes _ n s
  | pushBc => exact pushStk_completes _ s
  | addAN8 n => exact aluWith_completes _ _ _ _ s (by decide)
  | rst00 => exact restart_completes _ s
  | retZ => exact retCond_completes _ s
  | ret => exact ret_completes s
  | jpZA16 n => exact jumpAbs_completes _ n s
  | callZA16 n => exact callAbs_completes _ n s
  | callA16 n => exact callAbs_completes true n s
  | adcAN8 n => exact aluWith_completes _ _ _ _ s (by decide)
  | rst08 => exact restart_completes _ s
  | retNc => exact retCond_completes _ s
  | popDe => exact popStk_completes _ s
  | jpNcA16 n => exact jumpAbs_completes _ n s
  | illegalD3 => cases h
  | callNcA16 n => exact callAbs_completes _ n s
  | pushDe => exact pushStk_completes _ s
  | subAN8 n => exact aluWith_completes _ _ _ _ s (by decide)
  | rst10 => exact restart_completes _ s
  | retC => exact retCond_completes _ s
  | reti => exact reti_completes s
  | jpCA16 n => exact jumpAbs_completes _ n s
  | illegalDB => cases h
  | callCA16 n => exact callAbs_completes _ n s
  | illegalDD => cases h
  | sbcAN8 n => exact aluWith_completes _ _ _ _ s (by decide)
  | rst18 => exact restart_completes _ s
  | ldhIndA8A n => exact storeTo_completes _ _ _ _ s (by decide)
  | popHl => exact popStk_completes _ s
  | ldhIndCA => exact storeTo_completes _ _ _ _ s (by decide)
  | illegalE3 => cases h
  | illegalE4 => cases h
  | pushHl => exact pushStk_completes _ s
  | andAN8 n => exact aluWith_completes _ _ _ _ s (by decide)
  | rst20 => exact restart_completes _ s
  | addSpE8 n => exact addSp_completes n s
  | jpHl => exact completes_control (c := { s.cpu with pc := s.cpu.pair .hl }) (n := 4) (by decide) rfl rfl
  | ldIndA16A n => exact storeTo_completes _ _ _ _ s (by decide)
  | illegalEB => cases h
  | illegalEC => cases h
  | illegalED => cases h
  | xorAN8 n => exact aluWith_completes _ _ _ _ s (by decide)
  | rst28 => exact restart_completes _ s
  | ldhAIndA8 n => exact loadReg_completes _ _ _ _ s (by decide)
  | popAf => exact popStk_completes _ s
  | ldhAIndC => exact loadReg_completes _ _ _ _ s (by decide)
  | di => exact completes_control (c := { s.cpu with pc := s.cpu.pc + 1, ime := false, imePending := false }) (n := 4) (by decide) rfl rfl
  | illegalF4 => cases h
  | pushAf => exact pushStk_completes _ s
  | orAN8 n => exact aluWith_completes _ _ _ _ s (by decide)
  | rst30 => exact restart_completes _ s
  | ldHlSpE8 n => exact loadHlSp_completes n s
  | ldSpHl => exact loadPair_completes _ _ _ _ s (by decide)
  | ldAIndA16 n => exact loadReg_completes _ _ _ _ s (by decide)
  | ei => exact completes_control (c := { s.cpu with pc := s.cpu.pc + 1, imePending := true }) (n := 4) (by decide) rfl rfl
  | illegalFC => cases h
  | illegalFD => cases h
  | cpAN8 n => exact aluWith_completes _ _ _ _ s (by decide)
  | rst38 => exact restart_completes _ s
  | rlcB => exact updateReg_completes _ _ _ _ s (by decide) (mkFlags_low ..)
  | rlcC => exact updateReg_completes _ _ _ _ s (by decide) (mkFlags_low ..)
  | rlcD => exact updateReg_completes _ _ _ _ s (by decide) (mkFlags_low ..)
  | rlcE => exact updateReg_completes _ _ _ _ s (by decide) (mkFlags_low ..)
  | rlcH => exact updateReg_completes _ _ _ _ s (by decide) (mkFlags_low ..)
  | rlcL => exact updateReg_completes _ _ _ _ s (by decide) (mkFlags_low ..)
  | rlcIndHl => exact updateIndHl_completes _ _ _ s (by decide) (mkFlags_low ..)
  | rlcA => exact updateReg_completes _ _ _ _ s (by decide) (mkFlags_low ..)
  | rrcB => exact updateReg_completes _ _ _ _ s (by decide) (mkFlags_low ..)
  | rrcC => exact updateReg_completes _ _ _ _ s (by decide) (mkFlags_low ..)
  | rrcD => exact updateReg_completes _ _ _ _ s (by decide) (mkFlags_low ..)
  | rrcE => exact updateReg_completes _ _ _ _ s (by decide) (mkFlags_low ..)
  | rrcH => exact updateReg_completes _ _ _ _ s (by decide) (mkFlags_low ..)
  | rrcL => exact updateReg_completes _ _ _ _ s (by decide) (mkFlags_low ..)
  | rrcIndHl => exact updateIndHl_completes _ _ _ s (by decide) (mkFlags_low ..)
  | rrcA => exact updateReg_completes _ _ _ _ s (by decide) (mkFlags_low ..)
  | rlB => exact updateReg_completes _ _ _ _ s (by decide) (mkFlags_low ..)
  | rlC => exact updateReg_completes _ _ _ _ s (by decide) (mkFlags_low ..)
  | rlD => exact updateReg_completes _ _ _ _ s (by decide) (mkFlags_low ..)
  | rlE => exact updateReg_completes _ _ _ _ s (by decide) (mkFlags_low ..)
  | rlH => exact updateReg_completes _ _ _ _ s (by decide) (mkFlags_low ..)
  | rlL => exact updateReg_completes _ _ _ _ s (by decide) (mkFlags_low ..)
  | rlIndHl => exact updateIndHl_completes _ _ _ s (by decide) (mkFlags_low ..)
  | rlA => exact updateReg_completes _ _ _ _ s (by decide) (mkFlags_low ..)
  | rrB => exact updateReg_completes _ _ _ _ s (by decide) (mkFlags_low ..)
  | rrC => exact updateReg_completes _ _ _ _ s (by decide) (mkFlags_low ..)
  | rrD => exact updateReg_completes _ _ _ _ s (by decide) (mkFlags_low ..)
  | rrE => exact updateReg_completes _ _ _ _ s (by decide) (mkFlags_low ..)
  | rrH => exact updateReg_completes _ _ _ _ s (by decide) (mkFlags_low ..)
  | rrL => exact updateReg_completes _ _ _ _ s (by decide) (mkFlags_low ..)
  | rrIndHl => exact updateIndHl_completes _ _ _ s (by decide) (mkFlags_low ..)
  | rrA => exact updateReg_completes _ _ _ _ s (by decide) (mkFlags_low ..)
  | slaB => exact updateReg_completes _ _ _ _ s (by decide) (mkFlags_low ..)
  | slaC => exact updateReg_completes _ _ _ _ s (by decide) (mkFlags_low ..)
  | slaD => exact updateReg_completes _ _ _ _ s (by decide) (mkFlags_low ..)
  | slaE => exact updateReg_completes _ _ _ _ s (by decide) (mkFlags_low ..)
  | slaH => exact updateReg_completes _ _ _ _ s (by decide) (mkFlags_low ..)
  | slaL => exact updateReg_completes _ _ _ _ s (by decide) (mkFlags_low ..)
  | slaIndHl => exact updateIndHl_completes _ _ _ s (by decide) (mkFlags_low ..)
  | slaA => exact updateReg_completes _ _ _ _ s (by decide) (mkFlags_low ..)
  | sraB => exact updateReg_completes _ _ _ _ s (by decide) (mkFlags_low ..)
  | sraC => exact updateReg_completes _ _ _ _ s (by decide) (mkFlags_low ..)
  | sraD => exact updateReg_completes _ _ _ _ s (by decide) (mkFlags_low ..)
  | sraE => exact updateReg_completes _ _ _ _ s (by decide) (mkFlags_low ..)
  | sraH => exact updateReg_completes _ _ _ _ s (by decide) (mkFlags_low ..)
  | sraL => exact updateReg_completes _ _ _ _ s (by decide) (mkFlags_low ..)
  | sraIndHl => exact updateIndHl_completes _ _ _ s (by decide) (mkFlags_low ..)
  | sraA => exact updateReg_completes _ _ _ _ s (by decide) (mkFlags_low ..)
  | swapB => exact updateReg_completes _ _ _ _ s (by decide) (mkFlags_low ..)
  | swapC => exact updateReg_completes _ _ _ _ s (by decide) (mkFlags_low ..)
  | swapD => exact updateReg_completes _ _ _ _ s (by decide) (mkFlags_low ..)
  | swapE => exact updateReg_completes _ _ _ _ s (by decide) (mkFlags_low ..)
  | swapH => exact updateReg_completes _ _ _ _ s (by decide) (mkFlags_low ..)
  | swapL => exact updateReg_completes _ _ _ _ s (by decide) (mkFlags_low ..)
  | swapIndHl => exact updateIndHl_completes _ _ _ s (by decide) (mkFlags_low ..)
  | swapA => exact updateReg_completes _ _ _ _ s (by decide) (mkFlags_low ..)
  | srlB => exact updateReg_completes _ _ _ _ s (by decide) (mkFlags_low ..)
  | srlC => exact updateReg_completes _ _ _ _ s (by decide) (mkFlags_low ..)
  | srlD => exact updateReg_completes _ _ _ _ s (by decide) (mkFlags_low ..)
  | srlE => exact updateReg_completes _ _ _ _ s (by decide) (mkFlags_low ..)
  | srlH => exact updateReg_completes _ _ _ _ s (by decide) (mkFlags_low ..)
  | srlL => exact updateReg_completes _ _ _ _ s (by decide) (mkFlags_low ..)
  | srlIndHl => exact updateIndHl_completes _ _ _ s (by decide) (mkFlags_low ..)
  | srlA => exact updateReg_completes _ _ _ _ s (by decide) (mkFlags_low ..)
  | bit0B => exact testBit_completes _ _ _ s (by decide)
  | bit0C => exact testBit_completes _ _ _ s (by decide)
  | bit0D => exact testBit_completes _ _ _ s (by decide)
  | bit0E => exact testBit_completes _ _ _ s (by decide)
  | bit0H => exact testBit_completes _ _ _ s (by decide)
  | bit0L => exact testBit_completes _ _ _ s (by decide)
  | bit0IndHl => exact testBit_completes _ _ _ s (by decide)
  | bit0A => exact testBit_completes _ _ _ s (by decide)
  | bit1B => exact testBit_completes _ _ _ s (by decide)
  | bit1C => exact testBit_completes _ _ _ s (by decide)
  | bit1D => exact testBit_completes _ _ _ s (by decide)
  | bit1E => exact testBit_completes _ _ _ s (by decide)
  | bit1H => exact testBit_completes _ _ _ s (by decide)
  | bit1L => exact testBit_completes _ _ _ s (by decide)
  | bit1IndHl => exact testBit_completes _ _ _ s (by decide)
  | bit1A => exact testBit_completes _ _ _ s (by decide)
  | bit2B => exact testBit_completes _ _ _ s (by decide)
  | bit2C => exact testBit_completes _ _ _ s (by decide)
  | bit2D => exact testBit_completes _ _ _ s (by decide)
  | bit2E => exact testBit_completes _ _ _ s (by decide)
  | bit2H => exact testBit_completes _ _ _ s (by decide)
  | bit2L => exact testBit_completes _ _ _ s (by decide)
  | bit2IndHl => exact testBit_completes _ _ _ s (by decide)
  | bit2A => exact testBit_completes _ _ _ s (by decide)
  | bit3B => exact testBit_completes _ _ _ s (by decide)
  | bit3C => exact testBit_completes _ _ _ s (by decide)
  | bit3D => exact testBit_completes _ _ _ s (by decide)
  | bit3E => exact testBit_completes _ _ _ s (by decide)
  | bit3H => exact testBit_completes _ _ _ s (by decide)
  | bit3L => exact testBit_completes _ _ _ s (by decide)
  | bit3IndHl => exact testBit_completes _ _ _ s (by decide)
  | bit3A => exact testBit_completes _ _ _ s (by decide)
  | bit4B => exact testBit_completes _ _ _ s (by decide)
  | bit4C => exact testBit_completes _ _ _ s (by decide)
  | bit4D => exact testBit_completes _ _ _ s (by decide)
  | bit4E => exact testBit_completes _ _ _ s (by decide)
  | bit4H => exact testBit_completes _ _ _ s (by decide)
  | bit4L => exact testBit_completes _ _ _ s (by decide)
  | bit4IndHl => exact testBit_completes _ _ _ s (by decide)
  | bit4A => exact testBit_completes _ _ _ s (by decide)
  | bit5B => exact testBit_completes _ _ _ s (by decide)
  | bit5C => exact testBit_completes _ _ _ s (by decide)
  | bit5D => exact testBit_completes _ _ _ s (by decide)
  | bit5E => exact testBit_completes _ _ _ s (by decide)
  | bit5H => exact testBit_completes _ _ _ s (by decide)
  | bit5L => exact testBit_completes _ _ _ s (by decide)
  | bit5IndHl => exact testBit_completes _ _ _ s (by decide)
  | bit5A => exact testBit_completes _ _ _ s (by decide)
  | bit6B => exact testBit_completes _ _ _ s (by decide)
  | bit6C => exact testBit_completes _ _ _ s (by decide)
  | bit6D => exact testBit_completes _ _ _ s (by decide)
  | bit6E => exact testBit_completes _ _ _ s (by decide)
  | bit6H => exact testBit_completes _ _ _ s (by decide)
  | bit6L => exact testBit_completes _ _ _ s (by decide)
  | bit6IndHl => exact testBit_completes _ _ _ s (by decide)
  | bit6A => exact testBit_completes _ _ _ s (by decide)
  | bit7B => exact testBit_completes _ _ _ s (by decide)
  | bit7C => exact testBit_completes _ _ _ s (by decide)
  | bit7D => exact testBit_completes _ _ _ s (by decide)
  | bit7E => exact testBit_completes _ _ _ s (by decide)
  | bit7H => exact testBit_completes _ _ _ s (by decide)
  | bit7L => exact testBit_completes _ _ _ s (by decide)
  | bit7IndHl => exact testBit_completes _ _ _ s (by decide)
  | bit7A => exact testBit_completes _ _ _ s (by decide)
  | res0B => exact loadReg_completes _ _ _ _ s (by decide)
  | res0C => exact loadReg_completes _ _ _ _ s (by decide)
  | res0D => exact loadReg_completes _ _ _ _ s (by decide)
  | res0E => exact loadReg_completes _ _ _ _ s (by decide)
  | res0H => exact loadReg_completes _ _ _ _ s (by decide)
  | res0L => exact loadReg_completes _ _ _ _ s (by decide)
  | res0IndHl => exact storeTo_completes _ _ _ _ s (by decide)
  | res0A => exact loadReg_completes _ _ _ _ s (by decide)
  | res1B => exact loadReg_completes _ _ _ _ s (by decide)
  | res1C => exact loadReg_completes _ _ _ _ s (by decide)
  | res1D => exact loadReg_completes _ _ _ _ s (by decide)
  | res1E => exact loadReg_completes _ _ _ _ s (by decide)
  | res1H => exact loadReg_completes _ _ _ _ s (by decide)
  | res1L => exact loadReg_completes _ _ _ _ s (by decide)
  | res1IndHl => exact storeTo_completes _ _ _ _ s (by decide)
  | res1A => exact loadReg_completes _ _ _ _ s (by decide)
  | res2B => exact loadReg_completes _ _ _ _ s (by decide)
  | res2C => exact loadReg_completes _ _ _ _ s (by decide)
  | res2D => exact loadReg_completes _ _ _ _ s (by decide)
  | res2E => exact loadReg_completes _ _ _ _ s (by decide)
  | res2H => exact loadReg_completes _ _ _ _ s (by decide)
  | res2L => exact loadReg_completes _ _ _ _ s (by decide)
  | res2IndHl => exact storeTo_completes _ _ _ _ s (by decide)
  | res2A => exact loadReg_completes _ _ _ _ s (by decide)
  | res3B => exact loadReg_completes _ _ _ _ s (by decide)
  | res3C => exact loadReg_completes _ _ _ _ s (by decide)
  | res3D => exact loadReg_completes _ _ _ _ s (by decide)
  | res3E => exact loadReg_completes _ _ _ _ s (by decide)
  | res3H => exact loadReg_completes _ _ _ _ s (by decide)
  | res3L => exact loadReg_completes _ _ _ _ s (by decide)
  | res3IndHl => exact storeTo_completes _ _ _ _ s (by decide)
  | res3A => exact loadReg_completes _ _ _ _ s (by decide)
  | res4B => exact loadReg_completes _ _ _ _ s (by decide)
  | res4C => exact loadReg_completes _ _ _ _ s (by decide)
  | res4D => exact loadReg_completes _ _ _ _ s (by decide)
  | res4E => exact loadReg_completes _ _ _ _ s (by decide)
  | res4H => exact loadReg_completes _ _ _ _ s (by decide)
  | res4L => exact loadReg_completes _ _ _ _ s (by decide)
  | res4IndHl => exact storeTo_completes _ _ _ _ s (by decide)
  | res4A => exact loadReg_completes _ _ _ _ s (by decide)
  | res5B => exact loadReg_completes _ _ _ _ s (by decide)
  | res5C => exact loadReg_completes _ _ _ _ s (by decide)
  | res5D => exact loadReg_completes _ _ _ _ s (by decide)
  | res5E => exact loadReg_completes _ _ _ _ s (by decide)
  | res5H => exact loadReg_completes _ _ _ _ s (by decide)
  | res5L => exact loadReg_completes _ _ _ _ s (by decide)
  | res5IndHl => exact storeTo_completes _ _ _ _ s (by decide)
  | res5A => exact loadReg_completes _ _ _ _ s (by decide)
  | res6B => exact loadReg_completes _ _ _ _ s (by decide)
  | res6C => exact loadReg_completes _ _ _ _ s (by decide)
  | res6D => exact loadReg_completes _ _ _ _ s (by decide)
  | res6E => exact loadReg_completes _ _ _ _ s (by decide)
  | res6H => exact loadReg_completes _ _ _ _ s (by decide)
  | res6L => exact loadReg_completes _ _ _ _ s (by decide)
  | res6IndHl => exact storeTo_completes _ _ _ _ s (by decide)
  | res6A => exact loadReg_completes _ _ _ _ s (by decide)
  | res7B => exact loadReg_completes _ _ _ _ s (by decide)
  | res7C => exact loadReg_completes _ _ _ _ s (by decide)
  | res7D => exact loadReg_completes _ _ _ _ s (by decide)
  | res7E => exact loadReg_completes _ _ _ _ s (by decide)
  | res7H => exact loadReg_completes _ _ _ _ s (by decide)
  | res7L => exact loadReg_completes _ _ _ _ s (by decide)
  | res7IndHl => exact storeTo_completes _ _ _ _ s (by decide)
  | res7A => exact loadReg_completes _ _ _ _ s (by decide)
  | set0B => exact loadReg_completes _ _ _ _ s (by decide)
  | set0C => exact loadReg_completes _ _ _ _ s (by decide)
  | set0D => exact loadReg_completes _ _ _ _ s (by decide)
  | set0E => exact loadReg_completes _ _ _ _ s (by decide)
  | set0H => exact loadReg_completes _ _ _ _ s (by decide)
  | set0L => exact loadReg_completes _ _ _ _ s (by decide)
  | set0IndHl => exact storeTo_completes _ _ _ _ s (by decide)
  | set0A => exact loadReg_completes _ _ _ _ s (by decide)
  | set1B => exact loadReg_completes _ _ _ _ s (by decide)
  | set1C => exact loadReg_completes _ _ _ _ s (by decide)
  | set1D => exact loadReg_completes _ _ _ _ s (by decide)
  | set1E => exact loadReg_completes _ _ _ _ s (by decide)
  | set1H => exact loadReg_completes _ _ _ _ s (by decide)
  | set1L => exact loadReg_completes _ _ _ _ s (by decide)
  | set1IndHl => exact storeTo_completes _ _ _ _ s (by decide)
  | set1A => exact loadReg_completes _ _ _ _ s (by decide)
  | set2B => exact loadReg_completes _ _ _ _ s (by decide)
  | set2C => exact loadReg_completes _ _ _ _ s (by decide)
  | set2D => exact loadReg_completes _ _ _ _ s (by decide)
  | set2E => exact loadReg_completes _ _ _ _ s (by decide)
  | set2H => exact loadReg_completes _ _ _ _ s (by decide)
  | set2L => exact loadReg_completes _ _ _ _ s (by decide)
  | set2IndHl => exact storeTo_completes _ _ _ _ s (by decide)
  | set2A => exact loadReg_completes _ _ _ _ s (by decide)
  | set3B => exact loadReg_completes _ _ _ _ s (by decide)
  | set3C => exact loadReg_completes _ _ _ _ s (by decide)
  | set3D => exact loadReg_completes _ _ _ _ s (by decide)
  | set3E => exact loadReg_completes _ _ _ _ s (by decide)
  | set3H => exact loadReg_completes _ _ _ _ s (by decide)
  | set3L => exact loadReg_completes _ _ _ _ s (by decide)
  | set3IndHl => exact storeTo_completes _ _ _ _ s (by decide)
  | set3A => exact loadReg_completes _ _ _ _ s (by decide)
  | set4B => exact loadReg_completes _ _ _ _ s (by decide)
  | set4C => exact loadReg_completes _ _ _ _ s (by decide)
  | set4D => exact loadReg_completes _ _ _ _ s (by decide)
  | set4E => exact loadReg_completes _ _ _ _ s (by decide)
  | set4H => exact loadReg_completes _ _ _ _ s (by decide)
  | set4L => exact loadReg_completes _ _ _ _ s (by decide)
  | set4IndHl => exact storeTo_completes _ _ _ _ s (by decide)
  | set4A => exact loadReg_completes _ _ _ _ s (by decide)
  | set5B => exact loadReg_completes _ _ _ _ s (by decide)
  | set5C => exact loadReg_completes _ _ _ _ s (by decide)
  | set5D => exact loadReg_completes _ _ _ _ s (by decide)
  | set5E => exact loadReg_completes _ _ _ _ s (by decide)
  | set5H => exact loadReg_completes _ _ _ _ s (by decide)
  | set5L => exact loadReg_completes _ _ _ _ s (by decide)
  | set5IndHl => exact storeTo_completes _ _ _ _ s (by decide)
  | set5A => exact loadReg_completes _ _ _ _ s (by decide)
  | set6B => exact loadReg_completes _ _ _ _ s (by decide)
  | set6C => exact loadReg_completes _ _ _ _ s (by decide)
  | set6D => exact loadReg_completes _ _ _ _ s (by decide)
  | set6E => exact loadReg_completes _ _ _ _ s (by decide)
  | set6H => exact loadReg_completes _ _ _ _ s (by decide)
  | set6L => exact loadReg_completes _ _ _ _ s (by decide)
  | set6IndHl => exact storeTo_completes _ _ _ _ s (by decide)
  | set6A => exact loadReg_completes _ _ _ _ s (by decide)
  | set7B => exact loadReg_completes _ _ _ _ s (by decide)
  | set7C => exact loadReg_completes _ _ _ _ s (by decide)
  | set7D => exact loadReg_completes _ _ _ _ s (by decide)
  | set7E => exact loadReg_completes _ _ _ _ s (by decide)
  | set7H => exact loadReg_completes _ _ _ _ s (by decide)
  | set7L => exact loadReg_completes _ _ _ _ s (by decide)
  | set7IndHl => exact storeTo_completes _ _ _ _ s (by decide)
  | set7A => exact loadReg_completes _ _ _ _ s (by decide)

/-- An undefined opcode faults, and only it does (R295, R340). -/
theorem exec_illegal (i : Instr) (s : State) (h : i.isIllegal = true) :
    ∃ op, encode i = [op] ∧ exec i s = .fault (.illegalOpcode op s.cpu.pc) := by
  cases i <;> first | exact ⟨_, rfl, rfl⟩ | cases h

/-- What a next state of an instruction is. -/
theorem exec_next {i : Instr} {s t : State} (h : exec i s = .next t) : Completes s (storeAddrs i s) (.next t) := by
  by_cases hi : i.isIllegal = true
  · obtain ⟨_, _, e⟩ := exec_illegal i s hi
    rw [e] at h
    cases h
  · rw [← h]
    exact exec_completes i s (by simpa using hi)

end Sys2Proof.Machine
end

