-- ==== Sys2Proof/Laws/Host.lean ====
section
/-! SUPPORT. The host's side: header codes, what a rendered line leaves to be read, the bytes of the framebuffer, the steps
of a frame. -/

namespace Sys2Proof.Machine

/-! ### Header codes -/

@[simp] theorem ofCode_mbcCode (c : MbcCode) : Mbc.ofCode c.byte = some c.mbc := by
  cases c <;> rfl

@[simp] theorem ofCode_romSize (z : RomSize) : RomSize.ofCode z.byte = some z := by
  cases z <;> rfl

@[simp] theorem ofCode_ramSize (z : RamSize) : RamSize.ofCode z.byte = some z := by
  cases z <;> rfl

/-- The cartridge of `State.reset` is what its own header bytes say (R111 to R113). -/
theorem inserted_header :
    Mbc.ofCode (romAt Cart.inserted 0x147) = some Cart.inserted.mbc ∧
    RomSize.ofCode (romAt Cart.inserted 0x148) = some Cart.inserted.romSize ∧
    RamSize.ofCode (romAt Cart.inserted 0x149) = some Cart.inserted.ramSize :=
  ⟨ofCode_mbcCode _, ofCode_romSize _, ofCode_ramSize _⟩

/-- A power-on has the registers of the controller at their reset values already where it is that of a code. -/
@[simp] theorem mbcCode_reset (c : MbcCode) : c.mbc.reset = c.mbc := by
  cases c <;> rfl

/-! ### The picture -/

@[simp] theorem framebufferBytes_length (s : State) : (framebufferBytes s).length = 92160 := by
  rw [framebufferBytes, List.length_map, List.length_range]

theorem framebufferBytes_getElem? (s : State) {n : Nat} (h : n < 92160) :
    (framebufferBytes s)[n]? = some (framebufferByte s n) := by
  rw [framebufferBytes, List.getElem?_map, List.getElem?_range (by omega)]
  rfl

/-- Byte `k` of pixel `(x, y)` (R57). -/
theorem framebufferByte_pixel (s : State) {y x k : Nat} (hx : x < 160) (hk : k < 4) :
    framebufferByte s ((y * 160 + x) * 4 + k) = pixelByte (framebufferAt s y x) k := by
  unfold framebufferByte
  have h1 : ((y * 160 + x) * 4 + k) / 4 = y * 160 + x := by omega
  have h2 : ((y * 160 + x) * 4 + k) % 4 = k := by omega
  rw [h1, h2, show (y * 160 + x) / 160 = y by omega, show (y * 160 + x) % 160 = x by omega]

/-- What reading the picture gives after a line was rendered: its row, and the other rows as before (R378). -/
theorem shadeAt_renderLine (s : State) (ly y x : Nat) :
    shadeAt (renderLine s ly) y x =
      if y = ly then ((linePixels s ly).map Pixel.shade).getD x 0 else shadeAt s y x := by
  unfold shadeAt renderLine
  dsimp only
  rw [Store.get?_put]
  by_cases h : y = ly
  · rw [if_pos h, if_pos h]
  · rw [if_neg h, if_neg h]

theorem bgiAt_renderLine (s : State) (ly y x : Nat) :
    bgiAt (renderLine s ly) y x =
      if y = ly then ((linePixels s ly).map Pixel.bgi).getD x 0 else bgiAt s y x := by
  unfold bgiAt renderLine
  dsimp only
  rw [Store.get?_put]
  by_cases h : y = ly
  · rw [if_pos h, if_pos h]
  · rw [if_neg h, if_neg h]

/-! ### A frame -/

@[simp] theorem joypadUpdate_frameTotal (s : State) : (joypadUpdate s).frameTotal = s.frameTotal := by
  obtain ⟨_, e⟩ := joypadUpdate_frame s
  rw [e]

/-- No bus write changes the frame total. -/
@[simp] theorem busWrite_frameTotal (s : State) (a : Word) (v : Byte) : (busWrite s a v).frameTotal = s.frameTotal := by
  obtain ⟨_, e, _⟩ | ⟨_, e, _⟩ | ⟨_, e, _⟩ | ⟨_, e, _⟩ | e | e | ⟨_, e, _⟩ | ⟨off, e⟩ := busWrite_cases s a v
  all_goals rw [e]
  unfold ioWrite
  split
  · exact joypadUpdate_frameTotal _
  · rfl
  · dsimp only
    split
    · rfl
    · rw [lcdOffReset_frame]
      rfl
  · rfl
  · rfl
  · obtain ⟨_, e, _⟩ := dmaCopy_frame v (s.setIo .dma v)
    rw [e]
    rfl
  · rfl

theorem applyStores_frameTotal (s : State) (addrs : List Word) (vs : List Byte) :
    (applyStores s addrs vs).frameTotal = s.frameTotal := by
  induction addrs generalizing s vs with
  | nil => rfl
  | cons a as ih =>
    cases vs with
    | nil => rfl
    | cons v vs => exact (ih (busWrite s a v) vs).trans (busWrite_frameTotal s a v)

/-- The devices keep the cycle count and the frame total. -/
@[simp] theorem advanceDevices_cycles (s : State) : (advanceDevices s).cycles = s.cycles := by
  obtain ⟨_, _, _, _, e, _⟩ := timerStep_frame s.cycles (ppuStep s.cycles s)
  rw [advanceDevices, e, ppuStep_frame s.cycles s]

@[simp] theorem advanceDevices_frameTotal (s : State) : (advanceDevices s).frameTotal = s.frameTotal := by
  obtain ⟨_, _, _, _, e, _⟩ := timerStep_frame s.cycles (ppuStep s.cycles s)
  rw [advanceDevices, e, ppuStep_frame s.cycles s]

/-- A result that, where it is a next state, took one of the cycle counts and kept the frame total. -/
def KeepsTime (s : State) (r : Result) : Prop := ∀ t, r = .next t → t.cycles ∈ cycleCounts ∧ t.frameTotal = s.frameTotal

theorem keepsTime_exec (i : Instr) (s : State) : KeepsTime s (exec i s) := by
  intro t h
  obtain ⟨vs, c, n, _, e, hn, _⟩ := exec_next h
  injection e with e
  rw [e]
  exact ⟨hn, applyStores_frameTotal ..⟩

theorem keepsTime_dispatch (k : Irq) (s : State) : KeepsTime s (dispatchInterrupt k s) := by
  intro t h
  rw [dispatchInterrupt_eq] at h
  injection h with h
  rw [← h]
  exact ⟨(by decide : 20 ∈ cycleCounts), (busWrite_frameTotal ..).trans (busWrite_frameTotal ..)⟩

theorem keepsTime_stallOrExecute (s : State) : KeepsTime s (stallOrExecute s) := by
  unfold stallOrExecute
  split
  · intro t h
    injection h with h
    rw [← h]
    exact ⟨(by decide : 4 ∈ cycleCounts), rfl⟩
  · intro t h
    have hx := keepsTime_exec (fetch s) s
    generalize exec (fetch s) s = r at h hx
    cases r with
    | next u =>
      unfold promoteEi at h
      dsimp only at h
      split at h <;> injection h with h <;> rw [← h] <;> exact hx u rfl
    | fault e => cases h
    | refused e => cases h

/-- A machine step that answers a next state took one of the six cycle counts and left the frame total (R321, R391). -/
theorem step_keepsTime (s : State) : KeepsTime s (step s) := by
  intro t h
  have hc : KeepsTime s (cpuStep s) := by
    unfold cpuStep
    split
    · intro t h
      cases h
    · split
      · intro t h
        cases h
      · split
        · split
          · exact keepsTime_dispatch _ _
          · exact keepsTime_stallOrExecute { s with cpu := { s.cpu with halted := false } }
        · exact keepsTime_stallOrExecute s
  unfold step machineStep at h
  generalize cpuStep s = r at h hc
  cases r with
  | next u =>
    injection h with h
    rw [← h, advanceDevices_cycles, advanceDevices_frameTotal]
    exact hc u rfl
  | fault e => cases h
  | refused e => cases h

/-- Every cycle count is a multiple of 4 from 4 to 24. -/
theorem cycleCounts_bounds {n : Nat} (h : n ∈ cycleCounts) : 4 ≤ n ∧ n ≤ 24 ∧ n % 4 = 0 := by
  revert n
  decide

/-- Any two bounds that suffice give the same loop (log 14). -/
theorem frameLoop_fuel (n m : Nat) (s : State) (hn : Config.frameCycles ≤ s.frameTotal + 4 * n)
    (hm : Config.frameCycles ≤ s.frameTotal + 4 * m) : frameLoop n s = frameLoop m s := by
  induction n generalizing m s with
  | zero =>
    cases m with
    | zero => rfl
    | succ m =>
      unfold frameLoop
      rw [if_neg (by omega)]
  | succ n ih =>
    cases m with
    | zero =>
      unfold frameLoop
      rw [if_neg (by omega)]
    | succ m =>
      unfold frameLoop
      split
      · cases h : step s with
        | next t =>
          obtain ⟨h1, h2⟩ := step_keepsTime s t h
          have h3 := (cycleCounts_bounds h1).1
          exact ih m _ (by dsimp only; omega) (by dsimp only; omega)
        | fault e => rfl
        | refused r => rfl
      · rfl

end Sys2Proof.Machine
end

