-- ==== Sys2Proof/Laws/PerInstr.lean ====
section
/-! SUPPORT. Facts of every instruction as syntax, one lemma per constructor. Family RoundTrip: the decoder reads an
encoded instruction back, whatever bytes follow it. -/

namespace Sys2Proof.Laws

/-- A 16-bit immediate is its two bytes, high then low (R143). -/
theorem immHigh_append_immLow (w : Word) : immHigh w ++ immLow w = w := by
  apply BitVec.eq_of_getLsbD_eq
  intro i hi
  simp only [immHigh, immLow, BitVec.getLsbD_append, BitVec.getLsbD_extractLsb']
  split
  · next h => simp [h]
  · next h =>
    rw [show 8 + (i - 8) = i by omega]
    have : i - 8 < 8 := by omega
    simp [this]

/-- Decoding the bytes of `i`, followed by any others, gives `i` and leaves the others. -/
def RoundTrip.Statement (i : Instr) : Prop := ∀ rest, decode (encode i ++ rest) = .ok (i, rest)

/-- An instruction of the two bytes `b0`, `b1`. -/
theorem roundTrip_two {i : Instr} {b0 b1 : Byte} (he : encode i = [b0, b1]) (hd : ∀ b2, decode3 b0 b1 b2 = i) :
    RoundTrip.Statement i := by
  intro rest
  rw [he]
  simp only [List.cons_append, List.nil_append, decode, List.getD_cons_zero, hd, Instr.length, he]
  exact congrArg (fun j => Except.ok (j, rest)) (hd 0)

/-- An instruction with a 16-bit immediate, of the first byte `op`. -/
theorem roundTrip_word {f : Word → Instr} {op : Byte} (w : Word) (he : ∀ v, encode (f v) = [op, immLow v, immHigh v])
    (hd : ∀ b1 b2, decode3 op b1 b2 = f (b2 ++ b1)) : RoundTrip.Statement (f w) := by
  intro rest
  rw [he]
  simp only [List.cons_append, List.nil_append, decode, hd, Instr.length, he]
  change Except.ok (f (immHigh w ++ immLow w), rest) = _
  rw [immHigh_append_immLow]

theorem RoundTrip.nop : RoundTrip.Statement .nop := fun _ => rfl
theorem RoundTrip.ldBcN16 (n : Word) : RoundTrip.Statement (.ldBcN16 n) := roundTrip_word n (fun _ => rfl) fun _ _ => rfl
theorem RoundTrip.ldIndBcA : RoundTrip.Statement .ldIndBcA := fun _ => rfl
theorem RoundTrip.incBc : RoundTrip.Statement .incBc := fun _ => rfl
theorem RoundTrip.incB : RoundTrip.Statement .incB := fun _ => rfl
theorem RoundTrip.decB : RoundTrip.Statement .decB := fun _ => rfl
theorem RoundTrip.ldBN8 (n : Byte) : RoundTrip.Statement (.ldBN8 n) := fun _ => rfl
theorem RoundTrip.rlca : RoundTrip.Statement .rlca := fun _ => rfl
theorem RoundTrip.ldIndA16Sp (n : Word) : RoundTrip.Statement (.ldIndA16Sp n) := roundTrip_word n (fun _ => rfl) fun _ _ => rfl
theorem RoundTrip.addHlBc : RoundTrip.Statement .addHlBc := fun _ => rfl
theorem RoundTrip.ldAIndBc : RoundTrip.Statement .ldAIndBc := fun _ => rfl
theorem RoundTrip.decBc : RoundTrip.Statement .decBc := fun _ => rfl
theorem RoundTrip.incC : RoundTrip.Statement .incC := fun _ => rfl
theorem RoundTrip.decC : RoundTrip.Statement .decC := fun _ => rfl
theorem RoundTrip.ldCN8 (n : Byte) : RoundTrip.Statement (.ldCN8 n) := fun _ => rfl
theorem RoundTrip.rrca : RoundTrip.Statement .rrca := fun _ => rfl
theorem RoundTrip.stop (n : Byte) : RoundTrip.Statement (.stop n) := fun _ => rfl
theorem RoundTrip.ldDeN16 (n : Word) : RoundTrip.Statement (.ldDeN16 n) := roundTrip_word n (fun _ => rfl) fun _ _ => rfl
theorem RoundTrip.ldIndDeA : RoundTrip.Statement .ldIndDeA := fun _ => rfl
theorem RoundTrip.incDe : RoundTrip.Statement .incDe := fun _ => rfl
theorem RoundTrip.incD : RoundTrip.Statement .incD := fun _ => rfl
theorem RoundTrip.decD : RoundTrip.Statement .decD := fun _ => rfl
theorem RoundTrip.ldDN8 (n : Byte) : RoundTrip.Statement (.ldDN8 n) := fun _ => rfl
theorem RoundTrip.rla : RoundTrip.Statement .rla := fun _ => rfl
theorem RoundTrip.jrE8 (n : Byte) : RoundTrip.Statement (.jrE8 n) := fun _ => rfl
theorem RoundTrip.addHlDe : RoundTrip.Statement .addHlDe := fun _ => rfl
theorem RoundTrip.ldAIndDe : RoundTrip.Statement .ldAIndDe := fun _ => rfl
theorem RoundTrip.decDe : RoundTrip.Statement .decDe := fun _ => rfl
theorem RoundTrip.incE : RoundTrip.Statement .incE := fun _ => rfl
theorem RoundTrip.decE : RoundTrip.Statement .decE := fun _ => rfl
theorem RoundTrip.ldEN8 (n : Byte) : RoundTrip.Statement (.ldEN8 n) := fun _ => rfl
theorem RoundTrip.rra : RoundTrip.Statement .rra := fun _ => rfl
theorem RoundTrip.jrNzE8 (n : Byte) : RoundTrip.Statement (.jrNzE8 n) := fun _ => rfl
theorem RoundTrip.ldHlN16 (n : Word) : RoundTrip.Statement (.ldHlN16 n) := roundTrip_word n (fun _ => rfl) fun _ _ => rfl
theorem RoundTrip.ldIndHliA : RoundTrip.Statement .ldIndHliA := fun _ => rfl
theorem RoundTrip.incHl : RoundTrip.Statement .incHl := fun _ => rfl
theorem RoundTrip.incH : RoundTrip.Statement .incH := fun _ => rfl
theorem RoundTrip.decH : RoundTrip.Statement .decH := fun _ => rfl
theorem RoundTrip.ldHN8 (n : Byte) : RoundTrip.Statement (.ldHN8 n) := fun _ => rfl
theorem RoundTrip.daa : RoundTrip.Statement .daa := fun _ => rfl
theorem RoundTrip.jrZE8 (n : Byte) : RoundTrip.Statement (.jrZE8 n) := fun _ => rfl
theorem RoundTrip.addHlHl : RoundTrip.Statement .addHlHl := fun _ => rfl
theorem RoundTrip.ldAIndHli : RoundTrip.Statement .ldAIndHli := fun _ => rfl
theorem RoundTrip.decHl : RoundTrip.Statement .decHl := fun _ => rfl
theorem RoundTrip.incL : RoundTrip.Statement .incL := fun _ => rfl
theorem RoundTrip.decL : RoundTrip.Statement .decL := fun _ => rfl
theorem RoundTrip.ldLN8 (n : Byte) : RoundTrip.Statement (.ldLN8 n) := fun _ => rfl
theorem RoundTrip.cpl : RoundTrip.Statement .cpl := fun _ => rfl
theorem RoundTrip.jrNcE8 (n : Byte) : RoundTrip.Statement (.jrNcE8 n) := fun _ => rfl
theorem RoundTrip.ldSpN16 (n : Word) : RoundTrip.Statement (.ldSpN16 n) := roundTrip_word n (fun _ => rfl) fun _ _ => rfl
theorem RoundTrip.ldIndHldA : RoundTrip.Statement .ldIndHldA := fun _ => rfl
theorem RoundTrip.incSp : RoundTrip.Statement .incSp := fun _ => rfl
theorem RoundTrip.incIndHl : RoundTrip.Statement .incIndHl := fun _ => rfl
theorem RoundTrip.decIndHl : RoundTrip.Statement .decIndHl := fun _ => rfl
theorem RoundTrip.ldIndHlN8 (n : Byte) : RoundTrip.Statement (.ldIndHlN8 n) := fun _ => rfl
theorem RoundTrip.scf : RoundTrip.Statement .scf := fun _ => rfl
theorem RoundTrip.jrCE8 (n : Byte) : RoundTrip.Statement (.jrCE8 n) := fun _ => rfl
theorem RoundTrip.addHlSp : RoundTrip.Statement .addHlSp := fun _ => rfl
theorem RoundTrip.ldAIndHld : RoundTrip.Statement .ldAIndHld := fun _ => rfl
theorem RoundTrip.decSp : RoundTrip.Statement .decSp := fun _ => rfl
theorem RoundTrip.incA : RoundTrip.Statement .incA := fun _ => rfl
theorem RoundTrip.decA : RoundTrip.Statement .decA := fun _ => rfl
theorem RoundTrip.ldAN8 (n : Byte) : RoundTrip.Statement (.ldAN8 n) := fun _ => rfl
theorem RoundTrip.ccf : RoundTrip.Statement .ccf := fun _ => rfl
theorem RoundTrip.ldBB : RoundTrip.Statement .ldBB := fun _ => rfl
theorem RoundTrip.ldBC : RoundTrip.Statement .ldBC := fun _ => rfl
theorem RoundTrip.ldBD : RoundTrip.Statement .ldBD := fun _ => rfl
theorem RoundTrip.ldBE : RoundTrip.Statement .ldBE := fun _ => rfl
theorem RoundTrip.ldBH : RoundTrip.Statement .ldBH := fun _ => rfl
theorem RoundTrip.ldBL : RoundTrip.Statement .ldBL := fun _ => rfl
theorem RoundTrip.ldBIndHl : RoundTrip.Statement .ldBIndHl := fun _ => rfl
theorem RoundTrip.ldBA : RoundTrip.Statement .ldBA := fun _ => rfl
theorem RoundTrip.ldCB : RoundTrip.Statement .ldCB := fun _ => rfl
theorem RoundTrip.ldCC : RoundTrip.Statement .ldCC := fun _ => rfl
theorem RoundTrip.ldCD : RoundTrip.Statement .ldCD := fun _ => rfl
theorem RoundTrip.ldCE : RoundTrip.Statement .ldCE := fun _ => rfl
theorem RoundTrip.ldCH : RoundTrip.Statement .ldCH := fun _ => rfl
theorem RoundTrip.ldCL : RoundTrip.Statement .ldCL := fun _ => rfl
theorem RoundTrip.ldCIndHl : RoundTrip.Statement .ldCIndHl := fun _ => rfl
theorem RoundTrip.ldCA : RoundTrip.Statement .ldCA := fun _ => rfl
theorem RoundTrip.ldDB : RoundTrip.Statement .ldDB := fun _ => rfl
theorem RoundTrip.ldDC : RoundTrip.Statement .ldDC := fun _ => rfl
theorem RoundTrip.ldDD : RoundTrip.Statement .ldDD := fun _ => rfl
theorem RoundTrip.ldDE : RoundTrip.Statement .ldDE := fun _ => rfl
theorem RoundTrip.ldDH : RoundTrip.Statement .ldDH := fun _ => rfl
theorem RoundTrip.ldDL : RoundTrip.Statement .ldDL := fun _ => rfl
theorem RoundTrip.ldDIndHl : RoundTrip.Statement .ldDIndHl := fun _ => rfl
theorem RoundTrip.ldDA : RoundTrip.Statement .ldDA := fun _ => rfl
theorem RoundTrip.ldEB : RoundTrip.Statement .ldEB := fun _ => rfl
theorem RoundTrip.ldEC : RoundTrip.Statement .ldEC := fun _ => rfl
theorem RoundTrip.ldED : RoundTrip.Statement .ldED := fun _ => rfl
theorem RoundTrip.ldEE : RoundTrip.Statement .ldEE := fun _ => rfl
theorem RoundTrip.ldEH : RoundTrip.Statement .ldEH := fun _ => rfl
theorem RoundTrip.ldEL : RoundTrip.Statement .ldEL := fun _ => rfl
theorem RoundTrip.ldEIndHl : RoundTrip.Statement .ldEIndHl := fun _ => rfl
theorem RoundTrip.ldEA : RoundTrip.Statement .ldEA := fun _ => rfl
theorem RoundTrip.ldHB : RoundTrip.Statement .ldHB := fun _ => rfl
theorem RoundTrip.ldHC : RoundTrip.Statement .ldHC := fun _ => rfl
theorem RoundTrip.ldHD : RoundTrip.Statement .ldHD := fun _ => rfl
theorem RoundTrip.ldHE : RoundTrip.Statement .ldHE := fun _ => rfl
theorem RoundTrip.ldHH : RoundTrip.Statement .ldHH := fun _ => rfl
theorem RoundTrip.ldHL : RoundTrip.Statement .ldHL := fun _ => rfl
theorem RoundTrip.ldHIndHl : RoundTrip.Statement .ldHIndHl := fun _ => rfl
theorem RoundTrip.ldHA : RoundTrip.Statement .ldHA := fun _ => rfl
theorem RoundTrip.ldLB : RoundTrip.Statement .ldLB := fun _ => rfl
theorem RoundTrip.ldLC : RoundTrip.Statement .ldLC := fun _ => rfl
theorem RoundTrip.ldLD : RoundTrip.Statement .ldLD := fun _ => rfl
theorem RoundTrip.ldLE : RoundTrip.Statement .ldLE := fun _ => rfl
theorem RoundTrip.ldLH : RoundTrip.Statement .ldLH := fun _ => rfl
theorem RoundTrip.ldLL : RoundTrip.Statement .ldLL := fun _ => rfl
theorem RoundTrip.ldLIndHl : RoundTrip.Statement .ldLIndHl := fun _ => rfl
theorem RoundTrip.ldLA : RoundTrip.Statement .ldLA := fun _ => rfl
theorem RoundTrip.ldIndHlB : RoundTrip.Statement .ldIndHlB := fun _ => rfl
theorem RoundTrip.ldIndHlC : RoundTrip.Statement .ldIndHlC := fun _ => rfl
theorem RoundTrip.ldIndHlD : RoundTrip.Statement .ldIndHlD := fun _ => rfl
theorem RoundTrip.ldIndHlE : RoundTrip.Statement .ldIndHlE := fun _ => rfl
theorem RoundTrip.ldIndHlH : RoundTrip.Statement .ldIndHlH := fun _ => rfl
theorem RoundTrip.ldIndHlL : RoundTrip.Statement .ldIndHlL := fun _ => rfl
theorem RoundTrip.halt : RoundTrip.Statement .halt := fun _ => rfl
theorem RoundTrip.ldIndHlA : RoundTrip.Statement .ldIndHlA := fun _ => rfl
theorem RoundTrip.ldAB : RoundTrip.Statement .ldAB := fun _ => rfl
theorem RoundTrip.ldAC : RoundTrip.Statement .ldAC := fun _ => rfl
theorem RoundTrip.ldAD : RoundTrip.Statement .ldAD := fun _ => rfl
theorem RoundTrip.ldAE : RoundTrip.Statement .ldAE := fun _ => rfl
theorem RoundTrip.ldAH : RoundTrip.Statement .ldAH := fun _ => rfl
theorem RoundTrip.ldAL : RoundTrip.Statement .ldAL := fun _ => rfl
theorem RoundTrip.ldAIndHl : RoundTrip.Statement .ldAIndHl := fun _ => rfl
theorem RoundTrip.ldAA : RoundTrip.Statement .ldAA := fun _ => rfl
theorem RoundTrip.addAB : RoundTrip.Statement .addAB := fun _ => rfl
theorem RoundTrip.addAC : RoundTrip.Statement .addAC := fun _ => rfl
theorem RoundTrip.addAD : RoundTrip.Statement .addAD := fun _ => rfl
theorem RoundTrip.addAE : RoundTrip.Statement .addAE := fun _ => rfl
theorem RoundTrip.addAH : RoundTrip.Statement .addAH := fun _ => rfl
theorem RoundTrip.addAL : RoundTrip.Statement .addAL := fun _ => rfl
theorem RoundTrip.addAIndHl : RoundTrip.Statement .addAIndHl := fun _ => rfl
theorem RoundTrip.addAA : RoundTrip.Statement .addAA := fun _ => rfl
theorem RoundTrip.adcAB : RoundTrip.Statement .adcAB := fun _ => rfl
theorem RoundTrip.adcAC : RoundTrip.Statement .adcAC := fun _ => rfl
theorem RoundTrip.adcAD : RoundTrip.Statement .adcAD := fun _ => rfl
theorem RoundTrip.adcAE : RoundTrip.Statement .adcAE := fun _ => rfl
theorem RoundTrip.adcAH : RoundTrip.Statement .adcAH := fun _ => rfl
theorem RoundTrip.adcAL : RoundTrip.Statement .adcAL := fun _ => rfl
theorem RoundTrip.adcAIndHl : RoundTrip.Statement .adcAIndHl := fun _ => rfl
theorem RoundTrip.adcAA : RoundTrip.Statement .adcAA := fun _ => rfl
theorem RoundTrip.subAB : RoundTrip.Statement .subAB := fun _ => rfl
theorem RoundTrip.subAC : RoundTrip.Statement .subAC := fun _ => rfl
theorem RoundTrip.subAD : RoundTrip.Statement .subAD := fun _ => rfl
theorem RoundTrip.subAE : RoundTrip.Statement .subAE := fun _ => rfl
theorem RoundTrip.subAH : RoundTrip.Statement .subAH := fun _ => rfl
theorem RoundTrip.subAL : RoundTrip.Statement .subAL := fun _ => rfl
theorem RoundTrip.subAIndHl : RoundTrip.Statement .subAIndHl := fun _ => rfl
theorem RoundTrip.subAA : RoundTrip.Statement .subAA := fun _ => rfl
theorem RoundTrip.sbcAB : RoundTrip.Statement .sbcAB := fun _ => rfl
theorem RoundTrip.sbcAC : RoundTrip.Statement .sbcAC := fun _ => rfl
theorem RoundTrip.sbcAD : RoundTrip.Statement .sbcAD := fun _ => rfl
theorem RoundTrip.sbcAE : RoundTrip.Statement .sbcAE := fun _ => rfl
theorem RoundTrip.sbcAH : RoundTrip.Statement .sbcAH := fun _ => rfl
theorem RoundTrip.sbcAL : RoundTrip.Statement .sbcAL := fun _ => rfl
theorem RoundTrip.sbcAIndHl : RoundTrip.Statement .sbcAIndHl := fun _ => rfl
theorem RoundTrip.sbcAA : RoundTrip.Statement .sbcAA := fun _ => rfl
theorem RoundTrip.andAB : RoundTrip.Statement .andAB := fun _ => rfl
theorem RoundTrip.andAC : RoundTrip.Statement .andAC := fun _ => rfl
theorem RoundTrip.andAD : RoundTrip.Statement .andAD := fun _ => rfl
theorem RoundTrip.andAE : RoundTrip.Statement .andAE := fun _ => rfl
theorem RoundTrip.andAH : RoundTrip.Statement .andAH := fun _ => rfl
theorem RoundTrip.andAL : RoundTrip.Statement .andAL := fun _ => rfl
theorem RoundTrip.andAIndHl : RoundTrip.Statement .andAIndHl := fun _ => rfl
theorem RoundTrip.andAA : RoundTrip.Statement .andAA := fun _ => rfl
theorem RoundTrip.xorAB : RoundTrip.Statement .xorAB := fun _ => rfl
theorem RoundTrip.xorAC : RoundTrip.Statement .xorAC := fun _ => rfl
theorem RoundTrip.xorAD : RoundTrip.Statement .xorAD := fun _ => rfl
theorem RoundTrip.xorAE : RoundTrip.Statement .xorAE := fun _ => rfl
theorem RoundTrip.xorAH : RoundTrip.Statement .xorAH := fun _ => rfl
theorem RoundTrip.xorAL : RoundTrip.Statement .xorAL := fun _ => rfl
theorem RoundTrip.xorAIndHl : RoundTrip.Statement .xorAIndHl := fun _ => rfl
theorem RoundTrip.xorAA : RoundTrip.Statement .xorAA := fun _ => rfl
theorem RoundTrip.orAB : RoundTrip.Statement .orAB := fun _ => rfl
theorem RoundTrip.orAC : RoundTrip.Statement .orAC := fun _ => rfl
theorem RoundTrip.orAD : RoundTrip.Statement .orAD := fun _ => rfl
theorem RoundTrip.orAE : RoundTrip.Statement .orAE := fun _ => rfl
theorem RoundTrip.orAH : RoundTrip.Statement .orAH := fun _ => rfl
theorem RoundTrip.orAL : RoundTrip.Statement .orAL := fun _ => rfl
theorem RoundTrip.orAIndHl : RoundTrip.Statement .orAIndHl := fun _ => rfl
theorem RoundTrip.orAA : RoundTrip.Statement .orAA := fun _ => rfl
theorem RoundTrip.cpAB : RoundTrip.Statement .cpAB := fun _ => rfl
theorem RoundTrip.cpAC : RoundTrip.Statement .cpAC := fun _ => rfl
theorem RoundTrip.cpAD : RoundTrip.Statement .cpAD := fun _ => rfl
theorem RoundTrip.cpAE : RoundTrip.Statement .cpAE := fun _ => rfl
theorem RoundTrip.cpAH : RoundTrip.Statement .cpAH := fun _ => rfl
theorem RoundTrip.cpAL : RoundTrip.Statement .cpAL := fun _ => rfl
theorem RoundTrip.cpAIndHl : RoundTrip.Statement .cpAIndHl := fun _ => rfl
theorem RoundTrip.cpAA : RoundTrip.Statement .cpAA := fun _ => rfl
theorem RoundTrip.retNz : RoundTrip.Statement .retNz := fun _ => rfl
theorem RoundTrip.popBc : RoundTrip.Statement .popBc := fun _ => rfl
theorem RoundTrip.jpNzA16 (n : Word) : RoundTrip.Statement (.jpNzA16 n) := roundTrip_word n (fun _ => rfl) fun _ _ => rfl
theorem RoundTrip.jpA16 (n : Word) : RoundTrip.Statement (.jpA16 n) := roundTrip_word n (fun _ => rfl) fun _ _ => rfl
theorem RoundTrip.callNzA16 (n : Word) : RoundTrip.Statement (.callNzA16 n) := roundTrip_word n (fun _ => rfl) fun _ _ => rfl
theorem RoundTrip.pushBc : RoundTrip.Statement .pushBc := fun _ => rfl
theorem RoundTrip.addAN8 (n : Byte) : RoundTrip.Statement (.addAN8 n) := fun _ => rfl
theorem RoundTrip.rst00 : RoundTrip.Statement .rst00 := fun _ => rfl
theorem RoundTrip.retZ : RoundTrip.Statement .retZ := fun _ => rfl
theorem RoundTrip.ret : RoundTrip.Statement .ret := fun _ => rfl
theorem RoundTrip.jpZA16 (n : Word) : RoundTrip.Statement (.jpZA16 n) := roundTrip_word n (fun _ => rfl) fun _ _ => rfl
theorem RoundTrip.callZA16 (n : Word) : RoundTrip.Statement (.callZA16 n) := roundTrip_word n (fun _ => rfl) fun _ _ => rfl
theorem RoundTrip.callA16 (n : Word) : RoundTrip.Statement (.callA16 n) := roundTrip_word n (fun _ => rfl) fun _ _ => rfl
theorem RoundTrip.adcAN8 (n : Byte) : RoundTrip.Statement (.adcAN8 n) := fun _ => rfl
theorem RoundTrip.rst08 : RoundTrip.Statement .rst08 := fun _ => rfl
theorem RoundTrip.retNc : RoundTrip.Statement .retNc := fun _ => rfl
theorem RoundTrip.popDe : RoundTrip.Statement .popDe := fun _ => rfl
theorem RoundTrip.jpNcA16 (n : Word) : RoundTrip.Statement (.jpNcA16 n) := roundTrip_word n (fun _ => rfl) fun _ _ => rfl
theorem RoundTrip.illegalD3 : RoundTrip.Statement .illegalD3 := fun _ => rfl
theorem RoundTrip.callNcA16 (n : Word) : RoundTrip.Statement (.callNcA16 n) := roundTrip_word n (fun _ => rfl) fun _ _ => rfl
theorem RoundTrip.pushDe : RoundTrip.Statement .pushDe := fun _ => rfl
theorem RoundTrip.subAN8 (n : Byte) : RoundTrip.Statement (.subAN8 n) := fun _ => rfl
theorem RoundTrip.rst10 : RoundTrip.Statement .rst10 := fun _ => rfl
theorem RoundTrip.retC : RoundTrip.Statement .retC := fun _ => rfl
theorem RoundTrip.reti : RoundTrip.Statement .reti := fun _ => rfl
theorem RoundTrip.jpCA16 (n : Word) : RoundTrip.Statement (.jpCA16 n) := roundTrip_word n (fun _ => rfl) fun _ _ => rfl
theorem RoundTrip.illegalDB : RoundTrip.Statement .illegalDB := fun _ => rfl
theorem RoundTrip.callCA16 (n : Word) : RoundTrip.Statement (.callCA16 n) := roundTrip_word n (fun _ => rfl) fun _ _ => rfl
theorem RoundTrip.illegalDD : RoundTrip.Statement .illegalDD := fun _ => rfl
theorem RoundTrip.sbcAN8 (n : Byte) : RoundTrip.Statement (.sbcAN8 n) := fun _ => rfl
theorem RoundTrip.rst18 : RoundTrip.Statement .rst18 := fun _ => rfl
theorem RoundTrip.ldhIndA8A (n : Byte) : RoundTrip.Statement (.ldhIndA8A n) := fun _ => rfl
theorem RoundTrip.popHl : RoundTrip.Statement .popHl := fun _ => rfl
theorem RoundTrip.ldhIndCA : RoundTrip.Statement .ldhIndCA := fun _ => rfl
theorem RoundTrip.illegalE3 : RoundTrip.Statement .illegalE3 := fun _ => rfl
theorem RoundTrip.illegalE4 : RoundTrip.Statement .illegalE4 := fun _ => rfl
theorem RoundTrip.pushHl : RoundTrip.Statement .pushHl := fun _ => rfl
theorem RoundTrip.andAN8 (n : Byte) : RoundTrip.Statement (.andAN8 n) := fun _ => rfl
theorem RoundTrip.rst20 : RoundTrip.Statement .rst20 := fun _ => rfl
theorem RoundTrip.addSpE8 (n : Byte) : RoundTrip.Statement (.addSpE8 n) := fun _ => rfl
theorem RoundTrip.jpHl : RoundTrip.Statement .jpHl := fun _ => rfl
theorem RoundTrip.ldIndA16A (n : Word) : RoundTrip.Statement (.ldIndA16A n) := roundTrip_word n (fun _ => rfl) fun _ _ => rfl
theorem RoundTrip.illegalEB : RoundTrip.Statement .illegalEB := fun _ => rfl
theorem RoundTrip.illegalEC : RoundTrip.Statement .illegalEC := fun _ => rfl
theorem RoundTrip.illegalED : RoundTrip.Statement .illegalED := fun _ => rfl
theorem RoundTrip.xorAN8 (n : Byte) : RoundTrip.Statement (.xorAN8 n) := fun _ => rfl
theorem RoundTrip.rst28 : RoundTrip.Statement .rst28 := fun _ => rfl
theorem RoundTrip.ldhAIndA8 (n : Byte) : RoundTrip.Statement (.ldhAIndA8 n) := fun _ => rfl
theorem RoundTrip.popAf : RoundTrip.Statement .popAf := fun _ => rfl
theorem RoundTrip.ldhAIndC : RoundTrip.Statement .ldhAIndC := fun _ => rfl
theorem RoundTrip.di : RoundTrip.Statement .di := fun _ => rfl
theorem RoundTrip.illegalF4 : RoundTrip.Statement .illegalF4 := fun _ => rfl
theorem RoundTrip.pushAf : RoundTrip.Statement .pushAf := fun _ => rfl
theorem RoundTrip.orAN8 (n : Byte) : RoundTrip.Statement (.orAN8 n) := fun _ => rfl
theorem RoundTrip.rst30 : RoundTrip.Statement .rst30 := fun _ => rfl
theorem RoundTrip.ldHlSpE8 (n : Byte) : RoundTrip.Statement (.ldHlSpE8 n) := fun _ => rfl
theorem RoundTrip.ldSpHl : RoundTrip.Statement .ldSpHl := fun _ => rfl
theorem RoundTrip.ldAIndA16 (n : Word) : RoundTrip.Statement (.ldAIndA16 n) := roundTrip_word n (fun _ => rfl) fun _ _ => rfl
theorem RoundTrip.ei : RoundTrip.Statement .ei := fun _ => rfl
theorem RoundTrip.illegalFC : RoundTrip.Statement .illegalFC := fun _ => rfl
theorem RoundTrip.illegalFD : RoundTrip.Statement .illegalFD := fun _ => rfl
theorem RoundTrip.cpAN8 (n : Byte) : RoundTrip.Statement (.cpAN8 n) := fun _ => rfl
theorem RoundTrip.rst38 : RoundTrip.Statement .rst38 := fun _ => rfl
theorem RoundTrip.rlcB : RoundTrip.Statement .rlcB := roundTrip_two rfl fun _ => rfl
theorem RoundTrip.rlcC : RoundTrip.Statement .rlcC := roundTrip_two rfl fun _ => rfl
theorem RoundTrip.rlcD : RoundTrip.Statement .rlcD := roundTrip_two rfl fun _ => rfl
theorem RoundTrip.rlcE : RoundTrip.Statement .rlcE := roundTrip_two rfl fun _ => rfl
theorem RoundTrip.rlcH : RoundTrip.Statement .rlcH := roundTrip_two rfl fun _ => rfl
theorem RoundTrip.rlcL : RoundTrip.Statement .rlcL := roundTrip_two rfl fun _ => rfl
theorem RoundTrip.rlcIndHl : RoundTrip.Statement .rlcIndHl := roundTrip_two rfl fun _ => rfl
theorem RoundTrip.rlcA : RoundTrip.Statement .rlcA := roundTrip_two rfl fun _ => rfl
theorem RoundTrip.rrcB : RoundTrip.Statement .rrcB := roundTrip_two rfl fun _ => rfl
theorem RoundTrip.rrcC : RoundTrip.Statement .rrcC := roundTrip_two rfl fun _ => rfl
theorem RoundTrip.rrcD : RoundTrip.Statement .rrcD := roundTrip_two rfl fun _ => rfl
theorem RoundTrip.rrcE : RoundTrip.Statement .rrcE := roundTrip_two rfl fun _ => rfl
theorem RoundTrip.rrcH : RoundTrip.Statement .rrcH := roundTrip_two rfl fun _ => rfl
theorem RoundTrip.rrcL : RoundTrip.Statement .rrcL := roundTrip_two rfl fun _ => rfl
theorem RoundTrip.rrcIndHl : RoundTrip.Statement .rrcIndHl := roundTrip_two rfl fun _ => rfl
theorem RoundTrip.rrcA : RoundTrip.Statement .rrcA := roundTrip_two rfl fun _ => rfl
theorem RoundTrip.rlB : RoundTrip.Statement .rlB := roundTrip_two rfl fun _ => rfl
theorem RoundTrip.rlC : RoundTrip.Statement .rlC := roundTrip_two rfl fun _ => rfl
theorem RoundTrip.rlD : RoundTrip.Statement .rlD := roundTrip_two rfl fun _ => rfl
theorem RoundTrip.rlE : RoundTrip.Statement .rlE := roundTrip_two rfl fun _ => rfl
theorem RoundTrip.rlH : RoundTrip.Statement .rlH := roundTrip_two rfl fun _ => rfl
theorem RoundTrip.rlL : RoundTrip.Statement .rlL := roundTrip_two rfl fun _ => rfl
theorem RoundTrip.rlIndHl : RoundTrip.Statement .rlIndHl := roundTrip_two rfl fun _ => rfl
theorem RoundTrip.rlA : RoundTrip.Statement .rlA := roundTrip_two rfl fun _ => rfl
theorem RoundTrip.rrB : RoundTrip.Statement .rrB := roundTrip_two rfl fun _ => rfl
theorem RoundTrip.rrC : RoundTrip.Statement .rrC := roundTrip_two rfl fun _ => rfl
theorem RoundTrip.rrD : RoundTrip.Statement .rrD := roundTrip_two rfl fun _ => rfl
theorem RoundTrip.rrE : RoundTrip.Statement .rrE := roundTrip_two rfl fun _ => rfl
theorem RoundTrip.rrH : RoundTrip.Statement .rrH := roundTrip_two rfl fun _ => rfl
theorem RoundTrip.rrL : RoundTrip.Statement .rrL := roundTrip_two rfl fun _ => rfl
theorem RoundTrip.rrIndHl : RoundTrip.Statement .rrIndHl := roundTrip_two rfl fun _ => rfl
theorem RoundTrip.rrA : RoundTrip.Statement .rrA := roundTrip_two rfl fun _ => rfl
theorem RoundTrip.slaB : RoundTrip.Statement .slaB := roundTrip_two rfl fun _ => rfl
theorem RoundTrip.slaC : RoundTrip.Statement .slaC := roundTrip_two rfl fun _ => rfl
theorem RoundTrip.slaD : RoundTrip.Statement .slaD := roundTrip_two rfl fun _ => rfl
theorem RoundTrip.slaE : RoundTrip.Statement .slaE := roundTrip_two rfl fun _ => rfl
theorem RoundTrip.slaH : RoundTrip.Statement .slaH := roundTrip_two rfl fun _ => rfl
theorem RoundTrip.slaL : RoundTrip.Statement .slaL := roundTrip_two rfl fun _ => rfl
theorem RoundTrip.slaIndHl : RoundTrip.Statement .slaIndHl := roundTrip_two rfl fun _ => rfl
theorem RoundTrip.slaA : RoundTrip.Statement .slaA := roundTrip_two rfl fun _ => rfl
theorem RoundTrip.sraB : RoundTrip.Statement .sraB := roundTrip_two rfl fun _ => rfl
theorem RoundTrip.sraC : RoundTrip.Statement .sraC := roundTrip_two rfl fun _ => rfl
theorem RoundTrip.sraD : RoundTrip.Statement .sraD := roundTrip_two rfl fun _ => rfl
theorem RoundTrip.sraE : RoundTrip.Statement .sraE := roundTrip_two rfl fun _ => rfl
theorem RoundTrip.sraH : RoundTrip.Statement .sraH := roundTrip_two rfl fun _ => rfl
theorem RoundTrip.sraL : RoundTrip.Statement .sraL := roundTrip_two rfl fun _ => rfl
theorem RoundTrip.sraIndHl : RoundTrip.Statement .sraIndHl := roundTrip_two rfl fun _ => rfl
theorem RoundTrip.sraA : RoundTrip.Statement .sraA := roundTrip_two rfl fun _ => rfl
theorem RoundTrip.swapB : RoundTrip.Statement .swapB := roundTrip_two rfl fun _ => rfl
theorem RoundTrip.swapC : RoundTrip.Statement .swapC := roundTrip_two rfl fun _ => rfl
theorem RoundTrip.swapD : RoundTrip.Statement .swapD := roundTrip_two rfl fun _ => rfl
theorem RoundTrip.swapE : RoundTrip.Statement .swapE := roundTrip_two rfl fun _ => rfl
theorem RoundTrip.swapH : RoundTrip.Statement .swapH := roundTrip_two rfl fun _ => rfl
theorem RoundTrip.swapL : RoundTrip.Statement .swapL := roundTrip_two rfl fun _ => rfl
theorem RoundTrip.swapIndHl : RoundTrip.Statement .swapIndHl := roundTrip_two rfl fun _ => rfl
theorem RoundTrip.swapA : RoundTrip.Statement .swapA := roundTrip_two rfl fun _ => rfl
theorem RoundTrip.srlB : RoundTrip.Statement .srlB := roundTrip_two rfl fun _ => rfl
theorem RoundTrip.srlC : RoundTrip.Statement .srlC := roundTrip_two rfl fun _ => rfl
theorem RoundTrip.srlD : RoundTrip.Statement .srlD := roundTrip_two rfl fun _ => rfl
theorem RoundTrip.srlE : RoundTrip.Statement .srlE := roundTrip_two rfl fun _ => rfl
theorem RoundTrip.srlH : RoundTrip.Statement .srlH := roundTrip_two rfl fun _ => rfl
theorem RoundTrip.srlL : RoundTrip.Statement .srlL := roundTrip_two rfl fun _ => rfl
theorem RoundTrip.srlIndHl : RoundTrip.Statement .srlIndHl := roundTrip_two rfl fun _ => rfl
theorem RoundTrip.srlA : RoundTrip.Statement .srlA := roundTrip_two rfl fun _ => rfl
theorem RoundTrip.bit0B : RoundTrip.Statement .bit0B := roundTrip_two rfl fun _ => rfl
theorem RoundTrip.bit0C : RoundTrip.Statement .bit0C := roundTrip_two rfl fun _ => rfl
theorem RoundTrip.bit0D : RoundTrip.Statement .bit0D := roundTrip_two rfl fun _ => rfl
theorem RoundTrip.bit0E : RoundTrip.Statement .bit0E := roundTrip_two rfl fun _ => rfl
theorem RoundTrip.bit0H : RoundTrip.Statement .bit0H := roundTrip_two rfl fun _ => rfl
theorem RoundTrip.bit0L : RoundTrip.Statement .bit0L := roundTrip_two rfl fun _ => rfl
theorem RoundTrip.bit0IndHl : RoundTrip.Statement .bit0IndHl := roundTrip_two rfl fun _ => rfl
theorem RoundTrip.bit0A : RoundTrip.Statement .bit0A := roundTrip_two rfl fun _ => rfl
theorem RoundTrip.bit1B : RoundTrip.Statement .bit1B := roundTrip_two rfl fun _ => rfl
theorem RoundTrip.bit1C : RoundTrip.Statement .bit1C := roundTrip_two rfl fun _ => rfl
theorem RoundTrip.bit1D : RoundTrip.Statement .bit1D := roundTrip_two rfl fun _ => rfl
theorem RoundTrip.bit1E : RoundTrip.Statement .bit1E := roundTrip_two rfl fun _ => rfl
theorem RoundTrip.bit1H : RoundTrip.Statement .bit1H := roundTrip_two rfl fun _ => rfl
theorem RoundTrip.bit1L : RoundTrip.Statement .bit1L := roundTrip_two rfl fun _ => rfl
theorem RoundTrip.bit1IndHl : RoundTrip.Statement .bit1IndHl := roundTrip_two rfl fun _ => rfl
theorem RoundTrip.bit1A : RoundTrip.Statement .bit1A := roundTrip_two rfl fun _ => rfl
theorem RoundTrip.bit2B : RoundTrip.Statement .bit2B := roundTrip_two rfl fun _ => rfl
theorem RoundTrip.bit2C : RoundTrip.Statement .bit2C := roundTrip_two rfl fun _ => rfl
theorem RoundTrip.bit2D : RoundTrip.Statement .bit2D := roundTrip_two rfl fun _ => rfl
theorem RoundTrip.bit2E : RoundTrip.Statement .bit2E := roundTrip_two rfl fun _ => rfl
theorem RoundTrip.bit2H : RoundTrip.Statement .bit2H := roundTrip_two rfl fun _ => rfl
theorem RoundTrip.bit2L : RoundTrip.Statement .bit2L := roundTrip_two rfl fun _ => rfl
theorem RoundTrip.bit2IndHl : RoundTrip.Statement .bit2IndHl := roundTrip_two rfl fun _ => rfl
theorem RoundTrip.bit2A : RoundTrip.Statement .bit2A := roundTrip_two rfl fun _ => rfl
theorem RoundTrip.bit3B : RoundTrip.Statement .bit3B := roundTrip_two rfl fun _ => rfl
theorem RoundTrip.bit3C : RoundTrip.Statement .bit3C := roundTrip_two rfl fun _ => rfl
theorem RoundTrip.bit3D : RoundTrip.Statement .bit3D := roundTrip_two rfl fun _ => rfl
theorem RoundTrip.bit3E : RoundTrip.Statement .bit3E := roundTrip_two rfl fun _ => rfl
theorem RoundTrip.bit3H : RoundTrip.Statement .bit3H := roundTrip_two rfl fun _ => rfl
theorem RoundTrip.bit3L : RoundTrip.Statement .bit3L := roundTrip_two rfl fun _ => rfl
theorem RoundTrip.bit3IndHl : RoundTrip.Statement .bit3IndHl := roundTrip_two rfl fun _ => rfl
theorem RoundTrip.bit3A : RoundTrip.Statement .bit3A := roundTrip_two rfl fun _ => rfl
theorem RoundTrip.bit4B : RoundTrip.Statement .bit4B := roundTrip_two rfl fun _ => rfl
theorem RoundTrip.bit4C : RoundTrip.Statement .bit4C := roundTrip_two rfl fun _ => rfl
theorem RoundTrip.bit4D : RoundTrip.Statement .bit4D := roundTrip_two rfl fun _ => rfl
theorem RoundTrip.bit4E : RoundTrip.Statement .bit4E := roundTrip_two rfl fun _ => rfl
theorem RoundTrip.bit4H : RoundTrip.Statement .bit4H := roundTrip_two rfl fun _ => rfl
theorem RoundTrip.bit4L : RoundTrip.Statement .bit4L := roundTrip_two rfl fun _ => rfl
theorem RoundTrip.bit4IndHl : RoundTrip.Statement .bit4IndHl := roundTrip_two rfl fun _ => rfl
theorem RoundTrip.bit4A : RoundTrip.Statement .bit4A := roundTrip_two rfl fun _ => rfl
theorem RoundTrip.bit5B : RoundTrip.Statement .bit5B := roundTrip_two rfl fun _ => rfl
theorem RoundTrip.bit5C : RoundTrip.Statement .bit5C := roundTrip_two rfl fun _ => rfl
theorem RoundTrip.bit5D : RoundTrip.Statement .bit5D := roundTrip_two rfl fun _ => rfl
theorem RoundTrip.bit5E : RoundTrip.Statement .bit5E := roundTrip_two rfl fun _ => rfl
theorem RoundTrip.bit5H : RoundTrip.Statement .bit5H := roundTrip_two rfl fun _ => rfl
theorem RoundTrip.bit5L : RoundTrip.Statement .bit5L := roundTrip_two rfl fun _ => rfl
theorem RoundTrip.bit5IndHl : RoundTrip.Statement .bit5IndHl := roundTrip_two rfl fun _ => rfl
theorem RoundTrip.bit5A : RoundTrip.Statement .bit5A := roundTrip_two rfl fun _ => rfl
theorem RoundTrip.bit6B : RoundTrip.Statement .bit6B := roundTrip_two rfl fun _ => rfl
theorem RoundTrip.bit6C : RoundTrip.Statement .bit6C := roundTrip_two rfl fun _ => rfl
theorem RoundTrip.bit6D : RoundTrip.Statement .bit6D := roundTrip_two rfl fun _ => rfl
theorem RoundTrip.bit6E : RoundTrip.Statement .bit6E := roundTrip_two rfl fun _ => rfl
theorem RoundTrip.bit6H : RoundTrip.Statement .bit6H := roundTrip_two rfl fun _ => rfl
theorem RoundTrip.bit6L : RoundTrip.Statement .bit6L := roundTrip_two rfl fun _ => rfl
theorem RoundTrip.bit6IndHl : RoundTrip.Statement .bit6IndHl := roundTrip_two rfl fun _ => rfl
theorem RoundTrip.bit6A : RoundTrip.Statement .bit6A := roundTrip_two rfl fun _ => rfl
theorem RoundTrip.bit7B : RoundTrip.Statement .bit7B := roundTrip_two rfl fun _ => rfl
theorem RoundTrip.bit7C : RoundTrip.Statement .bit7C := roundTrip_two rfl fun _ => rfl
theorem RoundTrip.bit7D : RoundTrip.Statement .bit7D := roundTrip_two rfl fun _ => rfl
theorem RoundTrip.bit7E : RoundTrip.Statement .bit7E := roundTrip_two rfl fun _ => rfl
theorem RoundTrip.bit7H : RoundTrip.Statement .bit7H := roundTrip_two rfl fun _ => rfl
theorem RoundTrip.bit7L : RoundTrip.Statement .bit7L := roundTrip_two rfl fun _ => rfl
theorem RoundTrip.bit7IndHl : RoundTrip.Statement .bit7IndHl := roundTrip_two rfl fun _ => rfl
theorem RoundTrip.bit7A : RoundTrip.Statement .bit7A := roundTrip_two rfl fun _ => rfl
theorem RoundTrip.res0B : RoundTrip.Statement .res0B := roundTrip_two rfl fun _ => rfl
theorem RoundTrip.res0C : RoundTrip.Statement .res0C := roundTrip_two rfl fun _ => rfl
theorem RoundTrip.res0D : RoundTrip.Statement .res0D := roundTrip_two rfl fun _ => rfl
theorem RoundTrip.res0E : RoundTrip.Statement .res0E := roundTrip_two rfl fun _ => rfl
theorem RoundTrip.res0H : RoundTrip.Statement .res0H := roundTrip_two rfl fun _ => rfl
theorem RoundTrip.res0L : RoundTrip.Statement .res0L := roundTrip_two rfl fun _ => rfl
theorem RoundTrip.res0IndHl : RoundTrip.Statement .res0IndHl := roundTrip_two rfl fun _ => rfl
theorem RoundTrip.res0A : RoundTrip.Statement .res0A := roundTrip_two rfl fun _ => rfl
theorem RoundTrip.res1B : RoundTrip.Statement .res1B := roundTrip_two rfl fun _ => rfl
theorem RoundTrip.res1C : RoundTrip.Statement .res1C := roundTrip_two rfl fun _ => rfl
theorem RoundTrip.res1D : RoundTrip.Statement .res1D := roundTrip_two rfl fun _ => rfl
theorem RoundTrip.res1E : RoundTrip.Statement .res1E := roundTrip_two rfl fun _ => rfl
theorem RoundTrip.res1H : RoundTrip.Statement .res1H := roundTrip_two rfl fun _ => rfl
theorem RoundTrip.res1L : RoundTrip.Statement .res1L := roundTrip_two rfl fun _ => rfl
theorem RoundTrip.res1IndHl : RoundTrip.Statement .res1IndHl := roundTrip_two rfl fun _ => rfl
theorem RoundTrip.res1A : RoundTrip.Statement .res1A := roundTrip_two rfl fun _ => rfl
theorem RoundTrip.res2B : RoundTrip.Statement .res2B := roundTrip_two rfl fun _ => rfl
theorem RoundTrip.res2C : RoundTrip.Statement .res2C := roundTrip_two rfl fun _ => rfl
theorem RoundTrip.res2D : RoundTrip.Statement .res2D := roundTrip_two rfl fun _ => rfl
theorem RoundTrip.res2E : RoundTrip.Statement .res2E := roundTrip_two rfl fun _ => rfl
theorem RoundTrip.res2H : RoundTrip.Statement .res2H := roundTrip_two rfl fun _ => rfl
theorem RoundTrip.res2L : RoundTrip.Statement .res2L := roundTrip_two rfl fun _ => rfl
theorem RoundTrip.res2IndHl : RoundTrip.Statement .res2IndHl := roundTrip_two rfl fun _ => rfl
theorem RoundTrip.res2A : RoundTrip.Statement .res2A := roundTrip_two rfl fun _ => rfl
theorem RoundTrip.res3B : RoundTrip.Statement .res3B := roundTrip_two rfl fun _ => rfl
theorem RoundTrip.res3C : RoundTrip.Statement .res3C := roundTrip_two rfl fun _ => rfl
theorem RoundTrip.res3D : RoundTrip.Statement .res3D := roundTrip_two rfl fun _ => rfl
theorem RoundTrip.res3E : RoundTrip.Statement .res3E := roundTrip_two rfl fun _ => rfl
theorem RoundTrip.res3H : RoundTrip.Statement .res3H := roundTrip_two rfl fun _ => rfl
theorem RoundTrip.res3L : RoundTrip.Statement .res3L := roundTrip_two rfl fun _ => rfl
theorem RoundTrip.res3IndHl : RoundTrip.Statement .res3IndHl := roundTrip_two rfl fun _ => rfl
theorem RoundTrip.res3A : RoundTrip.Statement .res3A := roundTrip_two rfl fun _ => rfl
theorem RoundTrip.res4B : RoundTrip.Statement .res4B := roundTrip_two rfl fun _ => rfl
theorem RoundTrip.res4C : RoundTrip.Statement .res4C := roundTrip_two rfl fun _ => rfl
theorem RoundTrip.res4D : RoundTrip.Statement .res4D := roundTrip_two rfl fun _ => rfl
theorem RoundTrip.res4E : RoundTrip.Statement .res4E := roundTrip_two rfl fun _ => rfl
theorem RoundTrip.res4H : RoundTrip.Statement .res4H := roundTrip_two rfl fun _ => rfl
theorem RoundTrip.res4L : RoundTrip.Statement .res4L := roundTrip_two rfl fun _ => rfl
theorem RoundTrip.res4IndHl : RoundTrip.Statement .res4IndHl := roundTrip_two rfl fun _ => rfl
theorem RoundTrip.res4A : RoundTrip.Statement .res4A := roundTrip_two rfl fun _ => rfl
theorem RoundTrip.res5B : RoundTrip.Statement .res5B := roundTrip_two rfl fun _ => rfl
theorem RoundTrip.res5C : RoundTrip.Statement .res5C := roundTrip_two rfl fun _ => rfl
theorem RoundTrip.res5D : RoundTrip.Statement .res5D := roundTrip_two rfl fun _ => rfl
theorem RoundTrip.res5E : RoundTrip.Statement .res5E := roundTrip_two rfl fun _ => rfl
theorem RoundTrip.res5H : RoundTrip.Statement .res5H := roundTrip_two rfl fun _ => rfl
theorem RoundTrip.res5L : RoundTrip.Statement .res5L := roundTrip_two rfl fun _ => rfl
theorem RoundTrip.res5IndHl : RoundTrip.Statement .res5IndHl := roundTrip_two rfl fun _ => rfl
theorem RoundTrip.res5A : RoundTrip.Statement .res5A := roundTrip_two rfl fun _ => rfl
theorem RoundTrip.res6B : RoundTrip.Statement .res6B := roundTrip_two rfl fun _ => rfl
theorem RoundTrip.res6C : RoundTrip.Statement .res6C := roundTrip_two rfl fun _ => rfl
theorem RoundTrip.res6D : RoundTrip.Statement .res6D := roundTrip_two rfl fun _ => rfl
theorem RoundTrip.res6E : RoundTrip.Statement .res6E := roundTrip_two rfl fun _ => rfl
theorem RoundTrip.res6H : RoundTrip.Statement .res6H := roundTrip_two rfl fun _ => rfl
theorem RoundTrip.res6L : RoundTrip.Statement .res6L := roundTrip_two rfl fun _ => rfl
theorem RoundTrip.res6IndHl : RoundTrip.Statement .res6IndHl := roundTrip_two rfl fun _ => rfl
theorem RoundTrip.res6A : RoundTrip.Statement .res6A := roundTrip_two rfl fun _ => rfl
theorem RoundTrip.res7B : RoundTrip.Statement .res7B := roundTrip_two rfl fun _ => rfl
theorem RoundTrip.res7C : RoundTrip.Statement .res7C := roundTrip_two rfl fun _ => rfl
theorem RoundTrip.res7D : RoundTrip.Statement .res7D := roundTrip_two rfl fun _ => rfl
theorem RoundTrip.res7E : RoundTrip.Statement .res7E := roundTrip_two rfl fun _ => rfl
theorem RoundTrip.res7H : RoundTrip.Statement .res7H := roundTrip_two rfl fun _ => rfl
theorem RoundTrip.res7L : RoundTrip.Statement .res7L := roundTrip_two rfl fun _ => rfl
theorem RoundTrip.res7IndHl : RoundTrip.Statement .res7IndHl := roundTrip_two rfl fun _ => rfl
theorem RoundTrip.res7A : RoundTrip.Statement .res7A := roundTrip_two rfl fun _ => rfl
theorem RoundTrip.set0B : RoundTrip.Statement .set0B := roundTrip_two rfl fun _ => rfl
theorem RoundTrip.set0C : RoundTrip.Statement .set0C := roundTrip_two rfl fun _ => rfl
theorem RoundTrip.set0D : RoundTrip.Statement .set0D := roundTrip_two rfl fun _ => rfl
theorem RoundTrip.set0E : RoundTrip.Statement .set0E := roundTrip_two rfl fun _ => rfl
theorem RoundTrip.set0H : RoundTrip.Statement .set0H := roundTrip_two rfl fun _ => rfl
theorem RoundTrip.set0L : RoundTrip.Statement .set0L := roundTrip_two rfl fun _ => rfl
theorem RoundTrip.set0IndHl : RoundTrip.Statement .set0IndHl := roundTrip_two rfl fun _ => rfl
theorem RoundTrip.set0A : RoundTrip.Statement .set0A := roundTrip_two rfl fun _ => rfl
theorem RoundTrip.set1B : RoundTrip.Statement .set1B := roundTrip_two rfl fun _ => rfl
theorem RoundTrip.set1C : RoundTrip.Statement .set1C := roundTrip_two rfl fun _ => rfl
theorem RoundTrip.set1D : RoundTrip.Statement .set1D := roundTrip_two rfl fun _ => rfl
theorem RoundTrip.set1E : RoundTrip.Statement .set1E := roundTrip_two rfl fun _ => rfl
theorem RoundTrip.set1H : RoundTrip.Statement .set1H := roundTrip_two rfl fun _ => rfl
theorem RoundTrip.set1L : RoundTrip.Statement .set1L := roundTrip_two rfl fun _ => rfl
theorem RoundTrip.set1IndHl : RoundTrip.Statement .set1IndHl := roundTrip_two rfl fun _ => rfl
theorem RoundTrip.set1A : RoundTrip.Statement .set1A := roundTrip_two rfl fun _ => rfl
theorem RoundTrip.set2B : RoundTrip.Statement .set2B := roundTrip_two rfl fun _ => rfl
theorem RoundTrip.set2C : RoundTrip.Statement .set2C := roundTrip_two rfl fun _ => rfl
theorem RoundTrip.set2D : RoundTrip.Statement .set2D := roundTrip_two rfl fun _ => rfl
theorem RoundTrip.set2E : RoundTrip.Statement .set2E := roundTrip_two rfl fun _ => rfl
theorem RoundTrip.set2H : RoundTrip.Statement .set2H := roundTrip_two rfl fun _ => rfl
theorem RoundTrip.set2L : RoundTrip.Statement .set2L := roundTrip_two rfl fun _ => rfl
theorem RoundTrip.set2IndHl : RoundTrip.Statement .set2IndHl := roundTrip_two rfl fun _ => rfl
theorem RoundTrip.set2A : RoundTrip.Statement .set2A := roundTrip_two rfl fun _ => rfl
theorem RoundTrip.set3B : RoundTrip.Statement .set3B := roundTrip_two rfl fun _ => rfl
theorem RoundTrip.set3C : RoundTrip.Statement .set3C := roundTrip_two rfl fun _ => rfl
theorem RoundTrip.set3D : RoundTrip.Statement .set3D := roundTrip_two rfl fun _ => rfl
theorem RoundTrip.set3E : RoundTrip.Statement .set3E := roundTrip_two rfl fun _ => rfl
theorem RoundTrip.set3H : RoundTrip.Statement .set3H := roundTrip_two rfl fun _ => rfl
theorem RoundTrip.set3L : RoundTrip.Statement .set3L := roundTrip_two rfl fun _ => rfl
theorem RoundTrip.set3IndHl : RoundTrip.Statement .set3IndHl := roundTrip_two rfl fun _ => rfl
theorem RoundTrip.set3A : RoundTrip.Statement .set3A := roundTrip_two rfl fun _ => rfl
theorem RoundTrip.set4B : RoundTrip.Statement .set4B := roundTrip_two rfl fun _ => rfl
theorem RoundTrip.set4C : RoundTrip.Statement .set4C := roundTrip_two rfl fun _ => rfl
theorem RoundTrip.set4D : RoundTrip.Statement .set4D := roundTrip_two rfl fun _ => rfl
theorem RoundTrip.set4E : RoundTrip.Statement .set4E := roundTrip_two rfl fun _ => rfl
theorem RoundTrip.set4H : RoundTrip.Statement .set4H := roundTrip_two rfl fun _ => rfl
theorem RoundTrip.set4L : RoundTrip.Statement .set4L := roundTrip_two rfl fun _ => rfl
theorem RoundTrip.set4IndHl : RoundTrip.Statement .set4IndHl := roundTrip_two rfl fun _ => rfl
theorem RoundTrip.set4A : RoundTrip.Statement .set4A := roundTrip_two rfl fun _ => rfl
theorem RoundTrip.set5B : RoundTrip.Statement .set5B := roundTrip_two rfl fun _ => rfl
theorem RoundTrip.set5C : RoundTrip.Statement .set5C := roundTrip_two rfl fun _ => rfl
theorem RoundTrip.set5D : RoundTrip.Statement .set5D := roundTrip_two rfl fun _ => rfl
theorem RoundTrip.set5E : RoundTrip.Statement .set5E := roundTrip_two rfl fun _ => rfl
theorem RoundTrip.set5H : RoundTrip.Statement .set5H := roundTrip_two rfl fun _ => rfl
theorem RoundTrip.set5L : RoundTrip.Statement .set5L := roundTrip_two rfl fun _ => rfl
theorem RoundTrip.set5IndHl : RoundTrip.Statement .set5IndHl := roundTrip_two rfl fun _ => rfl
theorem RoundTrip.set5A : RoundTrip.Statement .set5A := roundTrip_two rfl fun _ => rfl
theorem RoundTrip.set6B : RoundTrip.Statement .set6B := roundTrip_two rfl fun _ => rfl
theorem RoundTrip.set6C : RoundTrip.Statement .set6C := roundTrip_two rfl fun _ => rfl
theorem RoundTrip.set6D : RoundTrip.Statement .set6D := roundTrip_two rfl fun _ => rfl
theorem RoundTrip.set6E : RoundTrip.Statement .set6E := roundTrip_two rfl fun _ => rfl
theorem RoundTrip.set6H : RoundTrip.Statement .set6H := roundTrip_two rfl fun _ => rfl
theorem RoundTrip.set6L : RoundTrip.Statement .set6L := roundTrip_two rfl fun _ => rfl
theorem RoundTrip.set6IndHl : RoundTrip.Statement .set6IndHl := roundTrip_two rfl fun _ => rfl
theorem RoundTrip.set6A : RoundTrip.Statement .set6A := roundTrip_two rfl fun _ => rfl
theorem RoundTrip.set7B : RoundTrip.Statement .set7B := roundTrip_two rfl fun _ => rfl
theorem RoundTrip.set7C : RoundTrip.Statement .set7C := roundTrip_two rfl fun _ => rfl
theorem RoundTrip.set7D : RoundTrip.Statement .set7D := roundTrip_two rfl fun _ => rfl
theorem RoundTrip.set7E : RoundTrip.Statement .set7E := roundTrip_two rfl fun _ => rfl
theorem RoundTrip.set7H : RoundTrip.Statement .set7H := roundTrip_two rfl fun _ => rfl
theorem RoundTrip.set7L : RoundTrip.Statement .set7L := roundTrip_two rfl fun _ => rfl
theorem RoundTrip.set7IndHl : RoundTrip.Statement .set7IndHl := roundTrip_two rfl fun _ => rfl
theorem RoundTrip.set7A : RoundTrip.Statement .set7A := roundTrip_two rfl fun _ => rfl

end Sys2Proof.Laws
end

