-- ==== Sys2Proof/Laws/Step.lean ====
section
/-! SUPPORT. The cases of a CPU step, one lemma each: an instruction, a stall, a dispatch. -/

namespace Sys2Proof.Machine

/-- No source is selected exactly when no enabled request is pending. -/
theorem lowestIrq_none_iff (v : Byte) : lowestIrq (v &&& 0x1F) = none ↔ v &&& 0x1F = 0 := by
  revert v
  decide +kernel

theorem fetch_withCpu (s : State) (c : Cpu) (n : Nat) (h : c.pc = s.cpu.pc) : fetch (s.withCpu c n) = fetch s := by
  unfold fetch
  simp only [busRead_withCpu, withCpu_cpu, h]

/-- With no dispatch and no stall, a CPU step is the fetched instruction, run with HALT cleared (R325 to R328). -/
theorem cpuStep_executes {s : State} (h1 : s.cpu.fault = none) (h2 : s.cpu.stopped = false)
    (h3 : s.cpu.ime = false ∨ s.ie &&& s.io.ifr &&& 0x1F = 0)
    (h4 : s.cpu.halted = false ∨ s.ie &&& s.io.ifr &&& 0x1F ≠ 0) :
    cpuStep s =
      promoteEi s.cpu.imePending (exec (fetch s) (s.withCpu { s.cpu with halted := false } s.cycles)) := by
  unfold cpuStep
  rw [h1, h2]
  simp only [Option.isSome_none, Bool.false_eq_true, if_false]
  cases hl : lowestIrq s.fired with
  | none =>
    have h0 := (lowestIrq_none_iff _).mp hl
    have h5 : s.cpu.halted = false := h4.resolve_right (fun h => h h0)
    have hs : s.withCpu { s.cpu with halted := false } s.cycles = s := by
      conv => rhs; rw [← withCpu_self s]
      rw [← h5]
    simp only [stallOrExecute, h5, hs, Bool.false_eq_true, if_false]
  | some k =>
    have h5 : s.cpu.ime = false := by
      refine h3.resolve_right (fun h => ?_)
      have := (lowestIrq_none_iff (s.ie &&& s.io.ifr)).mpr h
      rw [show lowestIrq (s.ie &&& s.io.ifr &&& 0x1F) = some k from hl] at this
      cases this
    dsimp only
    rw [if_neg (by rw [h5]; decide)]
    change stallOrExecute (s.withCpu { s.cpu with halted := false } s.cycles) = _
    simp only [stallOrExecute, withCpu_cpu, Bool.false_eq_true, if_false]
    exact congrArg (fun i => promoteEi _ (exec i _)) (fetch_withCpu s _ _ rfl)

/-- With a source selected and IME set, a CPU step is its dispatch (R325, R334). -/
theorem cpuStep_dispatches {s : State} {k : Irq} (h1 : s.cpu.fault = none) (h2 : s.cpu.stopped = false)
    (h3 : s.cpu.ime = true) (hk : lowestIrq s.fired = some k) : cpuStep s = dispatchInterrupt k s := by
  unfold cpuStep
  rw [if_neg (by simp [h1]), if_neg (by simp [h2]), hk]
  dsimp only
  rw [if_pos h3]

end Sys2Proof.Machine
end

