-- ==== Sys2Proof/Tests/Slice0.lean ====
section
/-! SUPPORT. Tests. Words and expected results are the spec's: the grids R154 and R162 of 30_encoding.md, the vectors of
95_test_vectors.md. Then, for every obligation with hypotheses, a state and operands that meet them. -/

namespace Sys2Proof.Tests

open Sys2Proof.Machine

/-! ### Well-formed terms: the one check there is, refused on each ill-formed term -/

theorem test_wellFormed_refuses : ∀ i ∈ [Instr.illegalD3, .illegalDB, .illegalDD, .illegalE3, .illegalE4, .illegalEB,
    .illegalEC, .illegalED, .illegalF4, .illegalFC, .illegalFD], ¬ WellFormed i := by decide

theorem test_wellFormed_accepts : WellFormed .nop ∧ WellFormed (.ldBcN16 0xFFFF) ∧ WellFormed .set7A := by decide

/-! ### Decoding: the sixteen first bytes of each row of the grid of R154, with the bytes 0x34, 0x12 after them -/

/-- What is decoded from a first byte followed by 0x34 and 0x12. -/
def primary (op : Byte) : Instr := decode3 op 0x34 0x12

/-- What is decoded from 0xCB and a second byte. -/
def prefixed (op2 : Byte) : Instr := decode3 0xCB op2 0x12

theorem test_decode_0x : List.map primary
    [0x00, 0x01, 0x02, 0x03, 0x04, 0x05, 0x06, 0x07, 0x08, 0x09, 0x0A, 0x0B, 0x0C, 0x0D, 0x0E, 0x0F] = [
    .nop, .ldBcN16 0x1234, .ldIndBcA, .incBc, .incB, .decB, .ldBN8 0x34, .rlca, .ldIndA16Sp 0x1234, .addHlBc,
    .ldAIndBc, .decBc, .incC, .decC, .ldCN8 0x34, .rrca] := by decide

theorem test_decode_1x : List.map primary
    [0x10, 0x11, 0x12, 0x13, 0x14, 0x15, 0x16, 0x17, 0x18, 0x19, 0x1A, 0x1B, 0x1C, 0x1D, 0x1E, 0x1F] = [
    .stop 0x34, .ldDeN16 0x1234, .ldIndDeA, .incDe, .incD, .decD, .ldDN8 0x34, .rla, .jrE8 0x34, .addHlDe, .ldAIndDe,
    .decDe, .incE, .decE, .ldEN8 0x34, .rra] := by decide

theorem test_decode_2x : List.map primary
    [0x20, 0x21, 0x22, 0x23, 0x24, 0x25, 0x26, 0x27, 0x28, 0x29, 0x2A, 0x2B, 0x2C, 0x2D, 0x2E, 0x2F] = [
    .jrNzE8 0x34, .ldHlN16 0x1234, .ldIndHliA, .incHl, .incH, .decH, .ldHN8 0x34, .daa, .jrZE8 0x34, .addHlHl,
    .ldAIndHli, .decHl, .incL, .decL, .ldLN8 0x34, .cpl] := by decide

theorem test_decode_3x : List.map primary
    [0x30, 0x31, 0x32, 0x33, 0x34, 0x35, 0x36, 0x37, 0x38, 0x39, 0x3A, 0x3B, 0x3C, 0x3D, 0x3E, 0x3F] = [
    .jrNcE8 0x34, .ldSpN16 0x1234, .ldIndHldA, .incSp, .incIndHl, .decIndHl, .ldIndHlN8 0x34, .scf, .jrCE8 0x34,
    .addHlSp, .ldAIndHld, .decSp, .incA, .decA, .ldAN8 0x34, .ccf] := by decide

theorem test_decode_4x : List.map primary
    [0x40, 0x41, 0x42, 0x43, 0x44, 0x45, 0x46, 0x47, 0x48, 0x49, 0x4A, 0x4B, 0x4C, 0x4D, 0x4E, 0x4F] = [
    .ldBB, .ldBC, .ldBD, .ldBE, .ldBH, .ldBL, .ldBIndHl, .ldBA, .ldCB, .ldCC, .ldCD, .ldCE, .ldCH, .ldCL, .ldCIndHl,
    .ldCA] := by decide

theorem test_decode_5x : List.map primary
    [0x50, 0x51, 0x52, 0x53, 0x54, 0x55, 0x56, 0x57, 0x58, 0x59, 0x5A, 0x5B, 0x5C, 0x5D, 0x5E, 0x5F] = [
    .ldDB, .ldDC, .ldDD, .ldDE, .ldDH, .ldDL, .ldDIndHl, .ldDA, .ldEB, .ldEC, .ldED, .ldEE, .ldEH, .ldEL, .ldEIndHl,
    .ldEA] := by decide

theorem test_decode_6x : List.map primary
    [0x60, 0x61, 0x62, 0x63, 0x64, 0x65, 0x66, 0x67, 0x68, 0x69, 0x6A, 0x6B, 0x6C, 0x6D, 0x6E, 0x6F] = [
    .ldHB, .ldHC, .ldHD, .ldHE, .ldHH, .ldHL, .ldHIndHl, .ldHA, .ldLB, .ldLC, .ldLD, .ldLE, .ldLH, .ldLL, .ldLIndHl,
    .ldLA] := by decide

theorem test_decode_7x : List.map primary
    [0x70, 0x71, 0x72, 0x73, 0x74, 0x75, 0x76, 0x77, 0x78, 0x79, 0x7A, 0x7B, 0x7C, 0x7D, 0x7E, 0x7F] = [
    .ldIndHlB, .ldIndHlC, .ldIndHlD, .ldIndHlE, .ldIndHlH, .ldIndHlL, .halt, .ldIndHlA, .ldAB, .ldAC, .ldAD, .ldAE,
    .ldAH, .ldAL, .ldAIndHl, .ldAA] := by decide

theorem test_decode_8x : List.map primary
    [0x80, 0x81, 0x82, 0x83, 0x84, 0x85, 0x86, 0x87, 0x88, 0x89, 0x8A, 0x8B, 0x8C, 0x8D, 0x8E, 0x8F] = [
    .addAB, .addAC, .addAD, .addAE, .addAH, .addAL, .addAIndHl, .addAA, .adcAB, .adcAC, .adcAD, .adcAE, .adcAH,
    .adcAL, .adcAIndHl, .adcAA] := by decide

theorem test_decode_9x : List.map primary
    [0x90, 0x91, 0x92, 0x93, 0x94, 0x95, 0x96, 0x97, 0x98, 0x99, 0x9A, 0x9B, 0x9C, 0x9D, 0x9E, 0x9F] = [
    .subAB, .subAC, .subAD, .subAE, .subAH, .subAL, .subAIndHl, .subAA, .sbcAB, .sbcAC, .sbcAD, .sbcAE, .sbcAH,
    .sbcAL, .sbcAIndHl, .sbcAA] := by decide

theorem test_decode_Ax : List.map primary
    [0xA0, 0xA1, 0xA2, 0xA3, 0xA4, 0xA5, 0xA6, 0xA7, 0xA8, 0xA9, 0xAA, 0xAB, 0xAC, 0xAD, 0xAE, 0xAF] = [
    .andAB, .andAC, .andAD, .andAE, .andAH, .andAL, .andAIndHl, .andAA, .xorAB, .xorAC, .xorAD, .xorAE, .xorAH,
    .xorAL, .xorAIndHl, .xorAA] := by decide

theorem test_decode_Bx : List.map primary
    [0xB0, 0xB1, 0xB2, 0xB3, 0xB4, 0xB5, 0xB6, 0xB7, 0xB8, 0xB9, 0xBA, 0xBB, 0xBC, 0xBD, 0xBE, 0xBF] = [
    .orAB, .orAC, .orAD, .orAE, .orAH, .orAL, .orAIndHl, .orAA, .cpAB, .cpAC, .cpAD, .cpAE, .cpAH, .cpAL, .cpAIndHl,
    .cpAA] := by decide

theorem test_decode_Cx : List.map primary
    [0xC0, 0xC1, 0xC2, 0xC3, 0xC4, 0xC5, 0xC6, 0xC7, 0xC8, 0xC9, 0xCA, 0xCB, 0xCC, 0xCD, 0xCE, 0xCF] = [
    .retNz, .popBc, .jpNzA16 0x1234, .jpA16 0x1234, .callNzA16 0x1234, .pushBc, .addAN8 0x34, .rst00, .retZ, .ret,
    .jpZA16 0x1234, .swapH, .callZA16 0x1234, .callA16 0x1234, .adcAN8 0x34, .rst08] := by decide

theorem test_decode_Dx : List.map primary
    [0xD0, 0xD1, 0xD2, 0xD3, 0xD4, 0xD5, 0xD6, 0xD7, 0xD8, 0xD9, 0xDA, 0xDB, 0xDC, 0xDD, 0xDE, 0xDF] = [
    .retNc, .popDe, .jpNcA16 0x1234, .illegalD3, .callNcA16 0x1234, .pushDe, .subAN8 0x34, .rst10, .retC, .reti,
    .jpCA16 0x1234, .illegalDB, .callCA16 0x1234, .illegalDD, .sbcAN8 0x34, .rst18] := by decide

theorem test_decode_Ex : List.map primary
    [0xE0, 0xE1, 0xE2, 0xE3, 0xE4, 0xE5, 0xE6, 0xE7, 0xE8, 0xE9, 0xEA, 0xEB, 0xEC, 0xED, 0xEE, 0xEF] = [
    .ldhIndA8A 0x34, .popHl, .ldhIndCA, .illegalE3, .illegalE4, .pushHl, .andAN8 0x34, .rst20, .addSpE8 0x34, .jpHl,
    .ldIndA16A 0x1234, .illegalEB, .illegalEC, .illegalED, .xorAN8 0x34, .rst28] := by decide

theorem test_decode_Fx : List.map primary
    [0xF0, 0xF1, 0xF2, 0xF3, 0xF4, 0xF5, 0xF6, 0xF7, 0xF8, 0xF9, 0xFA, 0xFB, 0xFC, 0xFD, 0xFE, 0xFF] = [
    .ldhAIndA8 0x34, .popAf, .ldhAIndC, .di, .illegalF4, .pushAf, .orAN8 0x34, .rst30, .ldHlSpE8 0x34, .ldSpHl,
    .ldAIndA16 0x1234, .ei, .illegalFC, .illegalFD, .cpAN8 0x34, .rst38] := by decide

/-! ### Decoding: the grid of R162, second bytes after 0xCB -/

theorem test_decode_cb_0x : List.map prefixed
    [0x00, 0x01, 0x02, 0x03, 0x04, 0x05, 0x06, 0x07, 0x08, 0x09, 0x0A, 0x0B, 0x0C, 0x0D, 0x0E, 0x0F] = [
    .rlcB, .rlcC, .rlcD, .rlcE, .rlcH, .rlcL, .rlcIndHl, .rlcA, .rrcB, .rrcC, .rrcD, .rrcE, .rrcH, .rrcL, .rrcIndHl,
    .rrcA] := by decide

theorem test_decode_cb_1x : List.map prefixed
    [0x10, 0x11, 0x12, 0x13, 0x14, 0x15, 0x16, 0x17, 0x18, 0x19, 0x1A, 0x1B, 0x1C, 0x1D, 0x1E, 0x1F] = [
    .rlB, .rlC, .rlD, .rlE, .rlH, .rlL, .rlIndHl, .rlA, .rrB, .rrC, .rrD, .rrE, .rrH, .rrL, .rrIndHl, .rrA] := by decide

theorem test_decode_cb_2x : List.map prefixed
    [0x20, 0x21, 0x22, 0x23, 0x24, 0x25, 0x26, 0x27, 0x28, 0x29, 0x2A, 0x2B, 0x2C, 0x2D, 0x2E, 0x2F] = [
    .slaB, .slaC, .slaD, .slaE, .slaH, .slaL, .slaIndHl, .slaA, .sraB, .sraC, .sraD, .sraE, .sraH, .sraL, .sraIndHl,
    .sraA] := by decide

theorem test_decode_cb_3x : List.map prefixed
    [0x30, 0x31, 0x32, 0x33, 0x34, 0x35, 0x36, 0x37, 0x38, 0x39, 0x3A, 0x3B, 0x3C, 0x3D, 0x3E, 0x3F] = [
    .swapB, .swapC, .swapD, .swapE, .swapH, .swapL, .swapIndHl, .swapA, .srlB, .srlC, .srlD, .srlE, .srlH, .srlL,
    .srlIndHl, .srlA] := by decide

theorem test_decode_cb_4x : List.map prefixed
    [0x40, 0x41, 0x42, 0x43, 0x44, 0x45, 0x46, 0x47, 0x48, 0x49, 0x4A, 0x4B, 0x4C, 0x4D, 0x4E, 0x4F] = [
    .bit0B, .bit0C, .bit0D, .bit0E, .bit0H, .bit0L, .bit0IndHl, .bit0A, .bit1B, .bit1C, .bit1D, .bit1E, .bit1H,
    .bit1L, .bit1IndHl, .bit1A] := by decide

theorem test_decode_cb_5x : List.map prefixed
    [0x50, 0x51, 0x52, 0x53, 0x54, 0x55, 0x56, 0x57, 0x58, 0x59, 0x5A, 0x5B, 0x5C, 0x5D, 0x5E, 0x5F] = [
    .bit2B, .bit2C, .bit2D, .bit2E, .bit2H, .bit2L, .bit2IndHl, .bit2A, .bit3B, .bit3C, .bit3D, .bit3E, .bit3H,
    .bit3L, .bit3IndHl, .bit3A] := by decide

theorem test_decode_cb_6x : List.map prefixed
    [0x60, 0x61, 0x62, 0x63, 0x64, 0x65, 0x66, 0x67, 0x68, 0x69, 0x6A, 0x6B, 0x6C, 0x6D, 0x6E, 0x6F] = [
    .bit4B, .bit4C, .bit4D, .bit4E, .bit4H, .bit4L, .bit4IndHl, .bit4A, .bit5B, .bit5C, .bit5D, .bit5E, .bit5H,
    .bit5L, .bit5IndHl, .bit5A] := by decide

theorem test_decode_cb_7x : List.map prefixed
    [0x70, 0x71, 0x72, 0x73, 0x74, 0x75, 0x76, 0x77, 0x78, 0x79, 0x7A, 0x7B, 0x7C, 0x7D, 0x7E, 0x7F] = [
    .bit6B, .bit6C, .bit6D, .bit6E, .bit6H, .bit6L, .bit6IndHl, .bit6A, .bit7B, .bit7C, .bit7D, .bit7E, .bit7H,
    .bit7L, .bit7IndHl, .bit7A] := by decide

theorem test_decode_cb_8x : List.map prefixed
    [0x80, 0x81, 0x82, 0x83, 0x84, 0x85, 0x86, 0x87, 0x88, 0x89, 0x8A, 0x8B, 0x8C, 0x8D, 0x8E, 0x8F] = [
    .res0B, .res0C, .res0D, .res0E, .res0H, .res0L, .res0IndHl, .res0A, .res1B, .res1C, .res1D, .res1E, .res1H,
    .res1L, .res1IndHl, .res1A] := by decide

theorem test_decode_cb_9x : List.map prefixed
    [0x90, 0x91, 0x92, 0x93, 0x94, 0x95, 0x96, 0x97, 0x98, 0x99, 0x9A, 0x9B, 0x9C, 0x9D, 0x9E, 0x9F] = [
    .res2B, .res2C, .res2D, .res2E, .res2H, .res2L, .res2IndHl, .res2A, .res3B, .res3C, .res3D, .res3E, .res3H,
    .res3L, .res3IndHl, .res3A] := by decide

theorem test_decode_cb_Ax : List.map prefixed
    [0xA0, 0xA1, 0xA2, 0xA3, 0xA4, 0xA5, 0xA6, 0xA7, 0xA8, 0xA9, 0xAA, 0xAB, 0xAC, 0xAD, 0xAE, 0xAF] = [
    .res4B, .res4C, .res4D, .res4E, .res4H, .res4L, .res4IndHl, .res4A, .res5B, .res5C, .res5D, .res5E, .res5H,
    .res5L, .res5IndHl, .res5A] := by decide

theorem test_decode_cb_Bx : List.map prefixed
    [0xB0, 0xB1, 0xB2, 0xB3, 0xB4, 0xB5, 0xB6, 0xB7, 0xB8, 0xB9, 0xBA, 0xBB, 0xBC, 0xBD, 0xBE, 0xBF] = [
    .res6B, .res6C, .res6D, .res6E, .res6H, .res6L, .res6IndHl, .res6A, .res7B, .res7C, .res7D, .res7E, .res7H,
    .res7L, .res7IndHl, .res7A] := by decide

theorem test_decode_cb_Cx : List.map prefixed
    [0xC0, 0xC1, 0xC2, 0xC3, 0xC4, 0xC5, 0xC6, 0xC7, 0xC8, 0xC9, 0xCA, 0xCB, 0xCC, 0xCD, 0xCE, 0xCF] = [
    .set0B, .set0C, .set0D, .set0E, .set0H, .set0L, .set0IndHl, .set0A, .set1B, .set1C, .set1D, .set1E, .set1H,
    .set1L, .set1IndHl, .set1A] := by decide

theorem test_decode_cb_Dx : List.map prefixed
    [0xD0, 0xD1, 0xD2, 0xD3, 0xD4, 0xD5, 0xD6, 0xD7, 0xD8, 0xD9, 0xDA, 0xDB, 0xDC, 0xDD, 0xDE, 0xDF] = [
    .set2B, .set2C, .set2D, .set2E, .set2H, .set2L, .set2IndHl, .set2A, .set3B, .set3C, .set3D, .set3E, .set3H,
    .set3L, .set3IndHl, .set3A] := by decide

theorem test_decode_cb_Ex : List.map prefixed
    [0xE0, 0xE1, 0xE2, 0xE3, 0xE4, 0xE5, 0xE6, 0xE7, 0xE8, 0xE9, 0xEA, 0xEB, 0xEC, 0xED, 0xEE, 0xEF] = [
    .set4B, .set4C, .set4D, .set4E, .set4H, .set4L, .set4IndHl, .set4A, .set5B, .set5C, .set5D, .set5E, .set5H,
    .set5L, .set5IndHl, .set5A] := by decide

theorem test_decode_cb_Fx : List.map prefixed
    [0xF0, 0xF1, 0xF2, 0xF3, 0xF4, 0xF5, 0xF6, 0xF7, 0xF8, 0xF9, 0xFA, 0xFB, 0xFC, 0xFD, 0xFE, 0xFF] = [
    .set6B, .set6C, .set6D, .set6E, .set6H, .set6L, .set6IndHl, .set6A, .set7B, .set7C, .set7D, .set7E, .set7H,
    .set7L, .set7IndHl, .set7A] := by decide

/-! ### `decode` and `encode` on whole words: one of each format, and what is left -/

theorem test_decode_formats :
    decode [0x21, 0x00, 0xC0, 0x76] = .ok (.ldHlN16 0xC000, [0x76]) ∧ decode [0xE0, 0x46] = .ok (.ldhIndA8A 0x46, []) ∧
    decode [0xCB, 0xD3] = .ok (.set2E, []) ∧ decode [0xD3, 0x00] = .ok (.illegalD3, [0x00]) ∧
    decode [] = .error .noBytes ∧ decode [0x01, 0x00] = .error .truncated := by decide

theorem test_encode_formats : encode (.jpA16 0x0150) = [0xC3, 0x50, 0x01] ∧ encode (.stop 0x00) = [0x10, 0x00] ∧
    encode .bit7IndHl = [0xCB, 0x7E] ∧ encode (.addSpE8 0xFE) = [0xE8, 0xFE] := by decide

theorem test_decodeTableWord : decodeTableWord 8 0x00 = some .nop ∧ decodeTableWord 16 0xCB37 = some .swapA ∧
    decodeTableWord 8 0xC3 = some (.jpA16 0) ∧ decodeTableWord 8 0xD3 = some .illegalD3 := by decide

/-! ### One CPU step from reset, code at 0x0100 (95_test_vectors.md 2.1 to 2.10) -/

/-- Bytes placed from an address on. -/
def place : State → Word → List Byte → State
  | s, _, [] => s
  | s, a, b :: bs => place (poke s a b) (a + 1) bs

/-- Power-on with a 32 KiB cartridge without a controller or RAM, none of its bytes given. -/
def base : State := State.powerOn ⟨[], .kib32, .none, [], .noMbc, []⟩ 0

/-- Reset with code at 0x0100, bytes at some addresses, and a changed CPU. -/
def start (code : List Byte) (mem : List (Word × Byte)) (f : Cpu → Cpu) : State :=
  let s := mem.foldl (fun s p => poke s p.1 p.2) (place base 0x0100 code)
  { s with cpu := f s.cpu }

/-- The CPU, the cycle count, and the bytes at some addresses after one CPU step. -/
def after (s : State) (addrs : List Word) : Option (Cpu × Nat × List Byte) :=
  match cpuStep s with
  | .next t => some (t.cpu, t.cycles, addrs.map (busRead t))
  | _ => none

/-- The CPU step of `s` ends with this change of the CPU, this count, these bytes. -/
abbrev Steps (s : State) (g : Cpu → Cpu) (n : Nat) (mem : List (Word × Byte)) : Prop :=
  after s (mem.map Prod.fst) = some (g s.cpu, n, mem.map Prod.snd)

/-- LD B,C. -/
theorem test_R170_41 : Steps (start [0x41] [] (fun c => { c with b := 0x12, c := 0x34 }))
    (fun c => { c with b := 0x34, pc := 0x0101 }) 4 [] := by decide

/-- LD A,A (no effect). -/
theorem test_R170_7F : Steps (start [0x7F] [] (fun c => { c with a := 0x9C }))
    (fun c => { c with pc := 0x0101 }) 4 [] := by decide

/-- LD B,n. -/
theorem test_R171_06 : Steps (start [0x06, 0x03] [] id)
    (fun c => { c with b := 0x03, pc := 0x0102 }) 8 [] := by decide

/-- LD (HL),n. -/
theorem test_R174_36 : Steps (start [0x36, 0x5A] [] (fun c => { c with h := 0xC0, l := 0x00 }))
    (fun c => { c with pc := 0x0102 }) 12 [(0xC000, 0x5A)] := by decide

/-- LD B,(HL). -/
theorem test_R172_46 : Steps (start [0x46] [(0xC010, 0xD0)] (fun c => { c with h := 0xC0, l := 0x10 }))
    (fun c => { c with b := 0xD0, pc := 0x0101 }) 8 [] := by decide

/-- LD H,(HL): address from old HL. -/
theorem test_R172_66 : Steps (start [0x66] [(0xC010, 0xD0)] (fun c => { c with h := 0xC0, l := 0x10 }))
    (fun c => { c with h := 0xD0, pc := 0x0101 }) 8 [] := by decide

/-- LD (HL),L. -/
theorem test_R173_75 : Steps (start [0x75] [] (fun c => { c with h := 0xC0, l := 0x22 }))
    (fun c => { c with pc := 0x0101 }) 8 [(0xC022, 0x22)] := by decide

/-- LD A,(BC). -/
theorem test_R175_0A : Steps (start [0x0A] [(0xC100, 0x3C)] (fun c => { c with b := 0xC1, c := 0x00 }))
    (fun c => { c with a := 0x3C, pc := 0x0101 }) 8 [] := by decide

/-- LD (DE),A. -/
theorem test_R178_12 : Steps (start [0x12] [] (fun c => { c with a := 0x99, d := 0xC2, e := 0x05 }))
    (fun c => { c with pc := 0x0101 }) 8 [(0xC205, 0x99)] := by decide

/-- LD (HL+),A: carry into H. -/
theorem test_R185_22 : Steps (start [0x22] [] (fun c => { c with a := 0x56, h := 0xC0, l := 0xFF }))
    (fun c => { c with h := 0xC1, l := 0x00, pc := 0x0101 }) 8 [(0xC0FF, 0x56)] := by decide

/-- LD A,(HL+) at 0xFFFF: reads IE, HL wraps to 0. -/
theorem test_R186_2A : Steps (start [0x2A] [(0xFFFF, 0x1F)] (fun c => { c with h := 0xFF, l := 0xFF }))
    (fun c => { c with a := 0x1F, h := 0x00, l := 0x00, pc := 0x0101 }) 8 [] := by decide

/-- LD (HL-),A at 0x0000: ROM write dropped (NoMbc), HL wraps. -/
theorem test_R187_32 : Steps (start [0x32] [] (fun c => { c with a := 0x56, h := 0x00, l := 0x00 }))
    (fun c => { c with h := 0xFF, l := 0xFF, pc := 0x0101 }) 8 [] := by decide

/-- LD A,(HL-). -/
theorem test_R188_3A : Steps (start [0x3A] [(0xC000, 0x42)] (fun c => { c with h := 0xC0, l := 0x00 }))
    (fun c => { c with a := 0x42, h := 0xBF, l := 0xFF, pc := 0x0101 }) 8 [] := by decide

/-- LDH (n),A to HRAM. -/
theorem test_R184_E0 : Steps (start [0xE0, 0x80] [] (fun c => { c with a := 0x77 }))
    (fun c => { c with pc := 0x0102 }) 12 [(0xFF80, 0x77)] := by decide

/-- LDH A,(n) from LY at reset. -/
theorem test_R183_F0 : Steps (start [0xF0, 0x44] [] id)
    (fun c => { c with a := 0x00, pc := 0x0102 }) 12 [] := by decide

/-- LD (C),A to LY: write ignored. -/
theorem test_R182_E2 : Steps (start [0xE2] [] (fun c => { c with a := 0xFF, c := 0x44 }))
    (fun c => { c with pc := 0x0101 }) 8 [] := by decide

/-- LD A,(C) from IF. -/
theorem test_R181_F2 : Steps (start [0xF2] [] (fun c => { c with c := 0x0F }))
    (fun c => { c with a := 0xE1, pc := 0x0101 }) 8 [] := by decide

/-- LD (nn),A. -/
theorem test_R180_EA : Steps (start [0xEA, 0x00, 0xC1] [] (fun c => { c with a := 0xAB }))
    (fun c => { c with pc := 0x0103 }) 16 [(0xC100, 0xAB)] := by decide

/-- LD A,(nn) through echo RAM. -/
theorem test_R179_FA : Steps (start [0xFA, 0x00, 0xE0] [(0xC000, 0x42)] id)
    (fun c => { c with a := 0x42, pc := 0x0103 }) 16 [] := by decide

/-- LD BC,nn. -/
theorem test_R200_01 : Steps (start [0x01, 0x34, 0x12] [] id)
    (fun c => { c with b := 0x12, c := 0x34, pc := 0x0103 }) 12 [] := by decide

/-- LD SP,nn. -/
theorem test_R200_31 : Steps (start [0x31, 0x00, 0xD0] [] id)
    (fun c => { c with sp := 0xD000, pc := 0x0103 }) 12 [] := by decide

/-- LD (nn),SP. -/
theorem test_R201_08 : Steps (start [0x08, 0x00, 0xC1] [] (fun c => { c with sp := 0xFFF8 }))
    (fun c => { c with pc := 0x0103 }) 20 [(0xC100, 0xF8), (0xC101, 0xFF)] := by decide

/-- LD SP,HL. -/
theorem test_R202_F9 : Steps (start [0xF9] [] (fun c => { c with h := 0xD0, l := 0x00 }))
    (fun c => { c with sp := 0xD000, pc := 0x0101 }) 8 [] := by decide

/-- LD HL,SP+e, e=+2. -/
theorem test_R203_F8 : Steps (start [0xF8, 0x02] [] (fun c => { c with sp := 0xFFF8 }))
    (fun c => { c with f := 0x00, h := 0xFF, l := 0xFA, pc := 0x0102 }) 12 [] := by decide

/-- PUSH BC. -/
theorem test_R204_C5 : Steps (start [0xC5] [] (fun c => { c with b := 0x12, c := 0x34 }))
    (fun c => { c with sp := 0xFFFC, pc := 0x0101 }) 16 [(0xFFFC, 0x34), (0xFFFD, 0x12)] := by decide

/-- PUSH AF (F=0xB0). -/
theorem test_R205_F5 : Steps (start [0xF5] [] (fun c => { c with a := 0x12 }))
    (fun c => { c with sp := 0xFFFC, pc := 0x0101 }) 16 [(0xFFFC, 0xB0), (0xFFFD, 0x12)] := by decide

/-- POP BC. -/
theorem test_R206_C1 : Steps (start [0xC1] [(0xFFFC, 0x34), (0xFFFD, 0x12)] (fun c => { c with sp := 0xFFFC }))
    (fun c => { c with b := 0x12, c := 0x34, sp := 0xFFFE, pc := 0x0101 }) 12 [] := by decide

/-- POP AF: low nibble of F dropped. -/
theorem test_R207_F1 : Steps (start [0xF1] [(0xFFFC, 0xFF), (0xFFFD, 0x12)] (fun c => { c with sp := 0xFFFC }))
    (fun c => { c with a := 0x12, f := 0xF0, sp := 0xFFFE, pc := 0x0101 }) 12 [] := by decide

/-- PUSH DE with SP=1: high byte to 0x0000 (ROM, dropped), low byte to IE. -/
theorem test_R204_D5 : Steps (start [0xD5] [] (fun c => { c with sp := 0x0001, d := 0xAA, e := 0x15 }))
    (fun c => { c with sp := 0xFFFF, pc := 0x0101 }) 16 [(0xFFFF, 0x15)] := by decide

/-- POP HL with SP=0xFFFF: low from IE, high from 0x0000. -/
theorem test_R206_E1 : Steps (start [0xE1] [(0xFFFF, 0x1B), (0x0000, 0xC3)] (fun c => { c with sp := 0xFFFF }))
    (fun c => { c with h := 0xC3, l := 0x1B, sp := 0x0001, pc := 0x0101 }) 12 [] := by decide

/-- ADD A,B: carry, half carry, zero. -/
theorem test_R216_80 : Steps (start [0x80] [] (fun c => { c with a := 0x3A, b := 0xC6, f := 0x00 }))
    (fun c => { c with a := 0x00, f := 0xB0, pc := 0x0101 }) 4 [] := by decide

/-- ADD A,A. -/
theorem test_R216_87 : Steps (start [0x87] [] (fun c => { c with a := 0x80, f := 0x00 }))
    (fun c => { c with a := 0x00, f := 0x90, pc := 0x0101 }) 4 [] := by decide

/-- ADC A,B with C=1. -/
theorem test_R217_88 : Steps (start [0x88] [] (fun c => { c with a := 0x10, b := 0x20, f := 0x10 }))
    (fun c => { c with a := 0x31, f := 0x00, pc := 0x0101 }) 4 [] := by decide

/-- ADC A,0 with C=1: 0xFF+0+1. -/
theorem test_R217_CE : Steps (start [0xCE, 0x00] [] (fun c => { c with a := 0xFF, f := 0x10 }))
    (fun c => { c with a := 0x00, f := 0xB0, pc := 0x0102 }) 8 [] := by decide

/-- SUB B equal. -/
theorem test_R218_90 : Steps (start [0x90] [] (fun c => { c with a := 0x3E, b := 0x3E, f := 0x00 }))
    (fun c => { c with a := 0x00, f := 0xC0, pc := 0x0101 }) 4 [] := by decide

/-- SUB n: half borrow. -/
theorem test_R218_D6 : Steps (start [0xD6, 0x0F] [] (fun c => { c with a := 0x3E, f := 0x00 }))
    (fun c => { c with a := 0x2F, f := 0x60, pc := 0x0102 }) 8 [] := by decide

/-- SBC A,H with C=1. -/
theorem test_R219_9C : Steps (start [0x9C] [] (fun c => { c with a := 0x3B, h := 0x2A, f := 0x10 }))
    (fun c => { c with a := 0x10, f := 0x40, pc := 0x0101 }) 4 [] := by decide

/-- SBC A,0xFF with C=1: 0-255-1. -/
theorem test_R219_DE : Steps (start [0xDE, 0xFF] [] (fun c => { c with a := 0x00, f := 0x10 }))
    (fun c => { c with f := 0xF0, pc := 0x0102 }) 8 [] := by decide

/-- AND n. -/
theorem test_R220_E6 : Steps (start [0xE6, 0x0F] [] (fun c => { c with a := 0x5A, f := 0x10 }))
    (fun c => { c with a := 0x0A, f := 0x20, pc := 0x0102 }) 8 [] := by decide

/-- AND B zero result. -/
theorem test_R220_A0 : Steps (start [0xA0] [] (fun c => { c with a := 0xF0, b := 0x0F, f := 0x00 }))
    (fun c => { c with a := 0x00, f := 0xA0, pc := 0x0101 }) 4 [] := by decide

/-- XOR A. -/
theorem test_R221_AF : Steps (start [0xAF] [] (fun c => { c with a := 0x5A, f := 0xF0 }))
    (fun c => { c with a := 0x00, f := 0x80, pc := 0x0101 }) 4 [] := by decide

/-- XOR n. -/
theorem test_R221_EE : Steps (start [0xEE, 0xFF] [] (fun c => { c with a := 0x0F, f := 0xF0 }))
    (fun c => { c with a := 0xF0, f := 0x00, pc := 0x0102 }) 8 [] := by decide

/-- OR C zero. -/
theorem test_R222_B1 : Steps (start [0xB1] [] (fun c => { c with a := 0x00, c := 0x00, f := 0x70 }))
    (fun c => { c with f := 0x80, pc := 0x0101 }) 4 [] := by decide

/-- OR n. -/
theorem test_R222_F6 : Steps (start [0xF6, 0x81] [] (fun c => { c with a := 0x18, f := 0xF0 }))
    (fun c => { c with a := 0x99, f := 0x00, pc := 0x0102 }) 8 [] := by decide

/-- CP n less. -/
theorem test_R223_FE : Steps (start [0xFE, 0x40] [] (fun c => { c with a := 0x3C, f := 0x00 }))
    (fun c => { c with f := 0x50, pc := 0x0102 }) 8 [] := by decide

/-- CP A. -/
theorem test_R223_BF : Steps (start [0xBF] [] (fun c => { c with a := 0x99, f := 0x00 }))
    (fun c => { c with f := 0xC0, pc := 0x0101 }) 4 [] := by decide

/-- INC A 0xFF: C kept. -/
theorem test_R224_3C : Steps (start [0x3C] [] (fun c => { c with a := 0xFF, f := 0x10 }))
    (fun c => { c with a := 0x00, f := 0xB0, pc := 0x0101 }) 4 [] := by decide

/-- INC B 0x0F. -/
theorem test_R224_04 : Steps (start [0x04] [] (fun c => { c with b := 0x0F, f := 0xC0 }))
    (fun c => { c with f := 0x20, b := 0x10, pc := 0x0101 }) 4 [] := by decide

/-- INC (HL). -/
theorem test_R225_34 : Steps (start [0x34] [(0xC000, 0x7F)] (fun c => { c with h := 0xC0, l := 0x00, f := 0x00 }))
    (fun c => { c with f := 0x20, pc := 0x0101 }) 12 [(0xC000, 0x80)] := by decide

/-- DEC A 1 (source boundary case). -/
theorem test_R226_3D : Steps (start [0x3D] [] (fun c => { c with a := 0x01, f := 0x00 }))
    (fun c => { c with a := 0x00, f := 0xC0, pc := 0x0101 }) 4 [] := by decide

/-- DEC B 0x10: C kept. -/
theorem test_R226_05 : Steps (start [0x05] [] (fun c => { c with b := 0x10, f := 0x10 }))
    (fun c => { c with f := 0x70, b := 0x0F, pc := 0x0101 }) 4 [] := by decide

/-- DEC (HL). -/
theorem test_R227_35 : Steps (start [0x35] [(0xC000, 0x01)] (fun c => { c with h := 0xC0, l := 0x00, f := 0x10 }))
    (fun c => { c with f := 0xD0, pc := 0x0101 }) 12 [(0xC000, 0x00)] := by decide

/-- INC BC wraps, no flags. -/
theorem test_R245_03 : Steps (start [0x03] [] (fun c => { c with b := 0xFF, c := 0xFF, f := 0xF0 }))
    (fun c => { c with b := 0x00, c := 0x00, pc := 0x0101 }) 8 [] := by decide

/-- INC SP wraps. -/
theorem test_R245_33 : Steps (start [0x33] [] (fun c => { c with sp := 0xFFFF }))
    (fun c => { c with sp := 0x0000, pc := 0x0101 }) 8 [] := by decide

/-- DEC DE wraps, no flags. -/
theorem test_R246_1B : Steps (start [0x1B] [] (fun c => { c with d := 0x00, e := 0x00, f := 0x00 }))
    (fun c => { c with d := 0xFF, e := 0xFF, pc := 0x0101 }) 8 [] := by decide

/-- DEC HL borrow into H. -/
theorem test_R246_2B : Steps (start [0x2B] [] (fun c => { c with h := 0x10, l := 0x00 }))
    (fun c => { c with h := 0x0F, l := 0xFF, pc := 0x0101 }) 8 [] := by decide

/-- ADD HL,BC: Z kept. -/
theorem test_R247_09 : Steps (start [0x09] [] (fun c => { c with h := 0x8A, l := 0x23, b := 0x06, c := 0x05, f := 0x80 }))
    (fun c => { c with f := 0xA0, h := 0x90, l := 0x28, pc := 0x0101 }) 8 [] := by decide

/-- ADD HL,HL: carry, result 0, Z stays 0. -/
theorem test_R247_29 : Steps (start [0x29] [] (fun c => { c with h := 0x80, l := 0x00, f := 0x00 }))
    (fun c => { c with f := 0x10, h := 0x00, pc := 0x0101 }) 8 [] := by decide

/-- ADD SP,e +8 wraps. -/
theorem test_R248_E8 : Steps (start [0xE8, 0x08] [] (fun c => { c with sp := 0xFFF8, f := 0xC0 }))
    (fun c => { c with f := 0x30, sp := 0x0000, pc := 0x0102 }) 16 [] := by decide

/-- RLCA. -/
theorem test_R255_07 : Steps (start [0x07] [] (fun c => { c with a := 0x85, f := 0xE0 }))
    (fun c => { c with a := 0x0B, f := 0x10, pc := 0x0101 }) 4 [] := by decide

/-- RLCA zero: Z is 0. -/
theorem test_R255_07b : Steps (start [0x07] [] (fun c => { c with a := 0x00, f := 0xF0 }))
    (fun c => { c with f := 0x00, pc := 0x0101 }) 4 [] := by decide

/-- RRCA. -/
theorem test_R256_0F : Steps (start [0x0F] [] (fun c => { c with a := 0x3B, f := 0x00 }))
    (fun c => { c with a := 0x9D, f := 0x10, pc := 0x0101 }) 4 [] := by decide

/-- RLA C=1. -/
theorem test_R257_17 : Steps (start [0x17] [] (fun c => { c with a := 0x95, f := 0x10 }))
    (fun c => { c with a := 0x2B, pc := 0x0101 }) 4 [] := by decide

/-- RLA to zero: Z is 0. -/
theorem test_R257_17b : Steps (start [0x17] [] (fun c => { c with a := 0x80, f := 0x00 }))
    (fun c => { c with a := 0x00, f := 0x10, pc := 0x0101 }) 4 [] := by decide

/-- RRA C=0. -/
theorem test_R258_1F : Steps (start [0x1F] [] (fun c => { c with a := 0x81, f := 0x00 }))
    (fun c => { c with a := 0x40, f := 0x10, pc := 0x0101 }) 4 [] := by decide

/-- RRA C=1. -/
theorem test_R258_1Fb : Steps (start [0x1F] [] (fun c => { c with a := 0x00, f := 0x10 }))
    (fun c => { c with a := 0x80, f := 0x00, pc := 0x0101 }) 4 [] := by decide

/-- CPL. -/
theorem test_R260_2F : Steps (start [0x2F] [] (fun c => { c with a := 0x35, f := 0x00 }))
    (fun c => { c with a := 0xCA, f := 0x60, pc := 0x0101 }) 4 [] := by decide

/-- CPL: Z and C kept. -/
theorem test_R260_2Fb : Steps (start [0x2F] [] (fun c => { c with a := 0xFF, f := 0x90 }))
    (fun c => { c with a := 0x00, f := 0xF0, pc := 0x0101 }) 4 [] := by decide

/-- SCF. -/
theorem test_R261_37 : Steps (start [0x37] [] (fun c => { c with f := 0xE0 }))
    (fun c => { c with f := 0x90, pc := 0x0101 }) 4 [] := by decide

/-- CCF C=1. -/
theorem test_R262_3F : Steps (start [0x3F] [] (fun c => { c with f := 0xF0 }))
    (fun c => { c with f := 0x80, pc := 0x0101 }) 4 [] := by decide

/-- CCF C=0. -/
theorem test_R262_3Fb : Steps (start [0x3F] [] (fun c => { c with f := 0x60 }))
    (fun c => { c with f := 0x10, pc := 0x0101 }) 4 [] := by decide

/-- JP a16. -/
theorem test_R271_C3 : Steps (start [0xC3, 0x50, 0x01] [] id) (fun c => { c with pc := 0x0150 }) 16 [] := by decide

/-- JP NZ taken. -/
theorem test_R272_C2 : Steps (start [0xC2, 0x50, 0x01] [] (fun c => { c with f := 0x00 }))
    (fun c => { c with pc := 0x0150 }) 16 [] := by decide

/-- JP C taken, into WRAM. -/
theorem test_R272_DA : Steps (start [0xDA, 0x00, 0xC0] [] (fun c => { c with f := 0x10 }))
    (fun c => { c with pc := 0xC000 }) 16 [] := by decide

/-- JP HL. -/
theorem test_R273_E9 : Steps (start [0xE9] [] (fun c => { c with h := 0xC0, l := 0x00 }))
    (fun c => { c with pc := 0xC000 }) 4 [] := by decide

/-- JR +5. -/
theorem test_R274_18 : Steps (start [0x18, 0x05] [] id) (fun c => { c with pc := 0x0107 }) 12 [] := by decide

/-- JR Z taken. -/
theorem test_R275_28 : Steps (start [0x28, 0x02] [] (fun c => { c with f := 0x80 }))
    (fun c => { c with pc := 0x0104 }) 12 [] := by decide

/-- JR NC not taken. -/
theorem test_R275_30 : Steps (start [0x30, 0x02] [] (fun c => { c with f := 0x10 }))
    (fun c => { c with pc := 0x0102 }) 8 [] := by decide

/-- NOP. -/
theorem test_R290_00 : Steps (start [0x00] [] id) (fun c => { c with pc := 0x0101 }) 4 [] := by decide

/-- HALT with nothing pending (IE=0). -/
theorem test_R291_76 : Steps (start [0x76] [] id) (fun c => { c with pc := 0x0101, halted := true }) 4 [] := by decide

/-- DI. -/
theorem test_R293_F3 : Steps (start [0xF3] [] (fun c => { c with ime := true }))
    (fun c => { c with pc := 0x0101, ime := false }) 4 [] := by decide

/-- EI: only the latch. -/
theorem test_R294_FB : Steps (start [0xFB] [] id)
    (fun c => { c with pc := 0x0101, imePending := true }) 4 [] := by decide

/-- RLC B. -/
theorem test_R301_CB00 : Steps (start [0xCB, 0x00] [] (fun c => { c with b := 0x85, f := 0x00 }))
    (fun c => { c with f := 0x10, b := 0x0B, pc := 0x0102 }) 8 [] := by decide

/-- RLC A zero: Z set (RLCA gives Z=0). -/
theorem test_R301_CB07 : Steps (start [0xCB, 0x07] [] (fun c => { c with a := 0x00, f := 0x10 }))
    (fun c => { c with f := 0x80, pc := 0x0102 }) 8 [] := by decide

/-- RRC C. -/
theorem test_R302_CB09 : Steps (start [0xCB, 0x09] [] (fun c => { c with c := 0x01, f := 0x00 }))
    (fun c => { c with f := 0x10, c := 0x80, pc := 0x0102 }) 8 [] := by decide

/-- RL D C=0. -/
theorem test_R303_CB12 : Steps (start [0xCB, 0x12] [] (fun c => { c with d := 0x80, f := 0x00 }))
    (fun c => { c with f := 0x90, d := 0x00, pc := 0x0102 }) 8 [] := by decide

/-- RR E C=0. -/
theorem test_R304_CB1B : Steps (start [0xCB, 0x1B] [] (fun c => { c with e := 0x01, f := 0x00 }))
    (fun c => { c with f := 0x90, e := 0x00, pc := 0x0102 }) 8 [] := by decide

/-- SLA H. -/
theorem test_R305_CB24 : Steps (start [0xCB, 0x24] [] (fun c => { c with h := 0xFF, f := 0x00 }))
    (fun c => { c with f := 0x10, h := 0xFE, pc := 0x0102 }) 8 [] := by decide

/-- SLA A to zero. -/
theorem test_R305_CB27 : Steps (start [0xCB, 0x27] [] (fun c => { c with a := 0x80, f := 0x00 }))
    (fun c => { c with a := 0x00, f := 0x90, pc := 0x0102 }) 8 [] := by decide

/-- SRA E: sign kept. -/
theorem test_R306_CB2B : Steps (start [0xCB, 0x2B] [] (fun c => { c with e := 0x8A, f := 0x10 }))
    (fun c => { c with f := 0x00, e := 0xC5, pc := 0x0102 }) 8 [] := by decide

/-- SRA L. -/
theorem test_R306_CB2D : Steps (start [0xCB, 0x2D] [] (fun c => { c with l := 0x01, f := 0x00 }))
    (fun c => { c with f := 0x90, l := 0x00, pc := 0x0102 }) 8 [] := by decide

/-- SWAP A. -/
theorem test_R307_CB37 : Steps (start [0xCB, 0x37] [] (fun c => { c with a := 0xF1, f := 0xF0 }))
    (fun c => { c with a := 0x1F, f := 0x00, pc := 0x0102 }) 8 [] := by decide

/-- SWAP B zero. -/
theorem test_R307_CB30 : Steps (start [0xCB, 0x30] [] (fun c => { c with b := 0x00, f := 0x10 }))
    (fun c => { c with f := 0x80, pc := 0x0102 }) 8 [] := by decide

/-- SRL A. -/
theorem test_R308_CB3F : Steps (start [0xCB, 0x3F] [] (fun c => { c with a := 0x01, f := 0x00 }))
    (fun c => { c with a := 0x00, f := 0x90, pc := 0x0102 }) 8 [] := by decide

/-- SRL B. -/
theorem test_R308_CB38 : Steps (start [0xCB, 0x38] [] (fun c => { c with b := 0xFF, f := 0x00 }))
    (fun c => { c with f := 0x10, b := 0x7F, pc := 0x0102 }) 8 [] := by decide

/-- BIT 7,H set: C kept. -/
theorem test_R309_CB7C : Steps (start [0xCB, 0x7C] [] (fun c => { c with h := 0x80, f := 0x10 }))
    (fun c => { c with f := 0x30, pc := 0x0102 }) 8 [] := by decide

/-- BIT 0,(HL): 12 cycles, no write. -/
theorem test_R309_CB46 : Steps (start [0xCB, 0x46] [(0xC000, 0xFE)] (fun c => { c with h := 0xC0, l := 0x00, f := 0x00 }))
    (fun c => { c with f := 0xA0, pc := 0x0102 }) 12 [] := by decide

/-- RES 0,A. -/
theorem test_R310_CB87 : Steps (start [0xCB, 0x87] [] (fun c => { c with a := 0xFF }))
    (fun c => { c with a := 0xFE, pc := 0x0102 }) 8 [] := by decide

/-- RES 7,(HL). -/
theorem test_R310_CBBE : Steps (start [0xCB, 0xBE] [(0xC000, 0xFF)] (fun c => { c with h := 0xC0, l := 0x00 }))
    (fun c => { c with pc := 0x0102 }) 16 [(0xC000, 0x7F)] := by decide

/-- SET 7,B. -/
theorem test_R311_CBF8 : Steps (start [0xCB, 0xF8] [] (fun c => { c with b := 0x00 }))
    (fun c => { c with b := 0x80, pc := 0x0102 }) 8 [] := by decide

/-- SET 0,(HL). -/
theorem test_R311_CBC6 : Steps (start [0xCB, 0xC6] [(0xC000, 0x00)] (fun c => { c with h := 0xC0, l := 0x00 }))
    (fun c => { c with pc := 0x0102 }) 16 [(0xC000, 0x01)] := by decide

/-- `DAA` on A and F. -/
theorem test_R259_DAA : daa 0x9A 0x00 = ⟨0x00, 0x90⟩ ∧ daa 0x32 0x30 = ⟨0x98, 0x10⟩ ∧ daa 0x00 0x70 = ⟨0x9A, 0x50⟩ ∧
    daa 0x9A 0x40 = ⟨0x9A, 0x40⟩ := by decide

/-! ### Interrupts, HALT, EI, undefined opcodes, STOP (2.8, 2.10) -/

/-- The worked dispatch of rule R335. -/
theorem test_R334_dispatch : Steps (start [] [(0xFFFF, 0x05), (0xFF0F, 0xE5)] (fun c => { c with pc := 0x0234, ime := true }))
    (fun c => { c with sp := 0xFFFC, pc := 0x0040, ime := false }) 20
    [(0xFF0F, 0xE4), (0xFFFC, 0x34), (0xFFFD, 0x02)] := by decide

/-- Dispatch with SP = 1: the low byte of PC overwrites IE. -/
theorem test_R334_dispatch_over_ie : Steps (start [] [(0xFFFF, 0x01), (0xFF0F, 0xE1)]
      (fun c => { c with sp := 0x0001, ime := true }))
    (fun c => { c with sp := 0xFFFF, pc := 0x0040, ime := false }) 20 [(0xFFFF, 0x00)] := by decide

/-- Halted, IME false, Timer pending: wake, and INC A runs in the same step. -/
theorem test_R325_wake : Steps (start [0x3C] [(0xFFFF, 0x04), (0xFF0F, 0xE4)] (fun c => { c with halted := true }))
    (fun c => { c with a := 0x02, f := 0x10, pc := 0x0101, halted := false }) 4 [] := by decide

/-- Halted, pending but not enabled in IE: stays halted. -/
theorem test_R326_stall : Steps (start [0x3C] [(0xFFFF, 0x04), (0xFF0F, 0xE1)] (fun c => { c with halted := true })) id 4 [] := by
  decide

/-- The instruction after EI runs, then IME is set. -/
theorem test_R328_promote : Steps (start [0x00] [] (fun c => { c with imePending := true }))
    (fun c => { c with pc := 0x0101, ime := true, imePending := false }) 4 [] := by decide

/-- The result is a next state with a property. -/
def isNext (p : State → Bool) : Result → Bool
  | .next t => p t
  | _ => false

/-- The result is this fault. -/
def isFault (e : Fault) : Result → Bool
  | .fault e' => decide (e' = e)
  | _ => false

/-- The result is this refusal. -/
def isRefused (e : Refusal) : Result → Bool
  | .refused e' => decide (e' = e)
  | _ => false

/-- An undefined opcode faults with its byte and address; the state it leaves is refused. -/
theorem test_R295_fault : isFault (.illegalOpcode 0xD3 0x0100) (step (start [0xD3] [] id)) = true ∧
    isRefused .cpuFaulted (step ((start [0xD3] [] id).afterFault 0xD3 0x0100)) = true := by decide

/-- A stopped core is refused. -/
theorem test_R292_stopped : isRefused .stopped (step (start [] [] (fun c => { c with stopped := true }))) = true := by decide

/-! ### Timer (2.11) -/

/-- Reset with these timer registers and accumulators. -/
def timerAt (div tima tma tac ifr : Byte) (divAcc timaAcc : Nat) : State :=
  { base with
    io := { base.io with div := div, tima := tima, tma := tma, tac := tac, ifr := ifr }
    timer := ⟨divAcc, timaAcc⟩ }

/-- DIV, TIMA, IF and the accumulators. -/
def timerOf (s : State) : Byte × Nat × Byte × Nat × Byte :=
  (s.io.div, s.timer.divAcc, s.io.tima, s.timer.timaAcc, s.io.ifr)

theorem test_R351_div_wraps : timerOf (timerStep 24 (timerAt 0xFF 0 0 0xF8 0xE0 250 0)) = (0x00, 18, 0x00, 0, 0xE0) := by decide

theorem test_R352_two_increments :
    timerOf (timerStep 24 (timerAt 0x00 0xFE 0xF0 0x05 0xE0 0 8)) = (0x00, 24, 0xF0, 0, 0xE4) := by decide

/-! ### Joypad (2.12) -/

/-- P1 and IF. -/
def padOf (s : State) : Byte × Byte := (s.io.p1, s.io.ifr)

/-- Reset with IF 0xE0 and the directions selected. -/
def pad1 : State := busWrite (start [] [(0xFF0F, 0xE0)] id) 0xFF00 0x20

theorem test_R86_select : padOf pad1 = (0xEF, 0xE0) := by decide

theorem test_R362_press : padOf (setButton .right true pad1) = (0xEE, 0xF0) := by decide

theorem test_R362_select_held : padOf (busWrite (setButton .a true pad1) 0xFF00 0x10) = (0xDE, 0xF0) := by decide

/-! ### PPU (2.13, 2.14) -/

/-- LCD on, in mode 0 of line 143 with 200 cycles accumulated, no STAT source enabled. -/
def beforeVBlank : State :=
  { base with
    io := { base.io with stat := 0x80, ifr := 0xE0, ly := 143, lyc := 1 }
    ppu := { Ppu.reset with line := 143, mode := .hBlank, acc := 200 } }

theorem test_R374_vblank : let t := ppuStep 4 beforeVBlank
    (t.ppu.line, t.ppu.mode, t.ppu.acc, t.io.ly, t.io.stat, t.io.ifr, t.ppu.frameReady) =
      (144, .vBlank, 0, 144, 0x81, 0xE1, true) := by decide

/-- The common set-up of the rendering vectors. -/
def picture (lcdc : Byte) (oam : List Byte) : State :=
  let s := place (place (start [] [(0x9800, 0x01), (0x9801, 0x80), (0x9C00, 0x03)] id) 0x8010 [0x3C, 0x7E, 0xFF, 0x00]) 0x8020
    [0xFF, 0x00]
  let t := place (place s 0x8800 [0x00, 0xF0]) 0xFE00 oam
  { t with io := { t.io with lcdc := lcdc, bgp := 0xE4, obp0 := 0xE4, obp1 := 0x1B, scx := 0, scy := 0, wx := 0, wy := 0 } }

/-- V1: background pixels 0 to 5 and 8. -/
theorem test_R379_background : let s := place (picture 0x91 []) 0x8000 [0x00, 0x00]
    [0, 1, 2, 5, 8].map (fun x => (mapPixel s (mapBase false) x 0).shade) = [0, 2, 3, 3, 2] := by decide

/-- V20 and V22: a sprite of tile 2 at column 0, through OBP0 and OBP1. -/
theorem test_R384_sprite :
    ((drawSprite (picture 0x93 []) 0 ⟨0, 16, 8, 2, 0x00⟩ (List.replicate 160 default)).take 9).map Pixel.shade =
      [1, 1, 1, 1, 1, 1, 1, 1, 0] ∧
    ((drawSprite (picture 0x93 []) 0 ⟨0, 16, 8, 2, 0x10⟩ (List.replicate 160 default)).take 9).map Pixel.shade =
      [2, 2, 2, 2, 2, 2, 2, 2, 0] := by decide

/-- V31, V32: the order is by x, then by OAM index. -/
theorem test_R383_order : (spriteOrder [⟨0, 16, 10, 2, 0⟩, ⟨1, 16, 8, 4, 0⟩, ⟨2, 16, 10, 3, 0⟩]).map Sprite.index = [1, 0, 2] := by
  decide

/-! ### Controllers, DMA, load (2.15) -/

/-- Reset with an MBC1 of 64 ROM banks and 32 KiB of RAM; byte 0 of bank 0x21 is 0x21. -/
def mbc1 : State :=
  State.powerOn ⟨[], .kib1024, .kib32, [(0x84000, 0x21)], .mbc1 Mbc1.reset, []⟩ 0

/-- Step 2: bank `(1 << 5) | 1`, after 0x20 and 0x01 were written to the two registers. -/
theorem test_R121_bank : let s := busWrite (busWrite mbc1 0x2000 0x20) 0x4000 0x01
    s.cart.mbc = .mbc1 ⟨false, 1, 1, false⟩ ∧ busRead s 0x4000 = 0x21 := by decide

/-- Step 14: RAM bank 2 in mode 1. -/
theorem test_R122_ram : let s := busWrite (busWrite (busWrite (busWrite mbc1 0x0000 0x0A) 0x4000 0x02) 0x6000 0x01) 0xA001 0x33
    s.cart.xram = [(0x4001, 0x33)] ∧ busRead s 0xA001 = 0x33 := by decide

/-- Reset with an MBC3 of 128 ROM banks and 32 KiB of RAM. -/
def mbc3 : State := State.powerOn ⟨[], .kib2048, .kib32, [], .mbc3 Mbc3.reset, []⟩ 0

/-- Steps 8 to 10: bank 3, then the clock select, which reads 0xFF and drops writes. -/
theorem test_R125_ram : let s := busWrite (busWrite (busWrite mbc3 0x0000 0x0A) 0x4000 0x03) 0xA000 0xA5
    let t := busWrite (busWrite s 0x4000 0x08) 0xA000 0x77
    s.cart.xram = [(0x6000, 0xA5)] ∧ t.cart.xram = [(0x6000, 0xA5)] ∧ busRead t 0xA000 = 0xFF := by decide

/-! ### Witnesses: the hypotheses of every obligation that has some, met together -/

theorem exists_next {r : Result} (p : State → Bool) (h : isNext p r = true) : ∃ t, r = .next t ∧ p t = true := by
  cases r <;> first | exact ⟨_, rfl, h⟩ | cases h

/-- A state at reset whose cartridge shows these bytes at 0x0100, with IE and IF given. -/
def at0100 (code : List Byte) (ie ifr : Byte) (f : Cpu → Cpu) : State := start code [(0xFFFF, ie), (0xFF0F, ifr)] f

/-- With nothing pending; with a request pending and IME false, HALT set; with the latch set. A CPU step of each outcome. -/
theorem test_witness_StepRunsDecodedInstruction :
    (∀ s ∈ [at0100 [0x00, 0x00, 0x00] 0x00 0xE1 (fun c => { c with ime := true }),
        at0100 [0x00, 0x00, 0x00] 0x1F 0xE1 (fun c => { c with halted := true, imePending := true })],
      s.cpu.fault = none ∧ s.cpu.stopped = false ∧ (s.cpu.ime = false ∨ s.ie &&& s.io.ifr &&& 0x1F = 0) ∧
      (s.cpu.halted = false ∨ s.ie &&& s.io.ifr &&& 0x1F ≠ 0) ∧
      decode [busRead s s.cpu.pc, busRead s (s.cpu.pc + 1), busRead s (s.cpu.pc + 2)] = .ok (.nop, [0x00, 0x00])) ∧
    WellFormed .nop ∧
    isNext (fun t => t.cycles == 4) (cpuStep (at0100 [0x00] 0x00 0xE1 id)) = true ∧
    isFault (.illegalOpcode 0xFD 0x0100) (cpuStep (at0100 [0xFD] 0x00 0xE1 id)) = true ∧
    isRefused .stopped (cpuStep (at0100 [] 0x00 0xE1 (fun c => { c with stopped := true }))) = true := by decide

theorem test_witness_EveryDefinedInstructionCompletes : WellFormed .nop ∧ WellFormed (.ldAN8 0xFF) ∧ WellFormed .set7A := by
  decide

/-- On a running core, and on a halted one that a request wakes. -/
theorem test_witness_UndefinedOpcodeFaultsUntilReset : ¬ WellFormed .illegalFD ∧
    ∀ s ∈ [at0100 [0xFD] 0x00 0xE1 id, at0100 [0xFD] 0x04 0xE4 (fun c => { c with halted := true })],
      s.cpu.fault = none ∧ s.cpu.stopped = false ∧ (s.cpu.halted = false ∨ s.ie &&& s.io.ifr &&& 0x1F ≠ 0) ∧
      s.cpu.ime = false ∧ busRead s s.cpu.pc = 0xFD := by
  decide

theorem test_witness_StopStopsTheCoreUntilReset : let s := start [] [] (fun c => { c with stopped := true })
    s.cpu.fault = none ∧ s.cpu.stopped = true := by decide

/-- At the top of HRAM, across the end of WRAM and its echo, and for each store around 0xC000. -/
theorem test_witness_PushThenPopIsIdentity : ∀ s ∈ [base, start [] [] (fun c => { c with sp := 0xE001 }),
      start [] [] (fun c => { c with sp := 0x0000 }), start [] [] (fun c => { c with sp := 0xC002 })],
    plainStore s (s.cpu.sp - 1) = true ∧ plainStore s (s.cpu.sp - 2) = true ∧ s.cpu.f &&& 0x0F = 0 := by decide

theorem test_witness_LogicOperations : AluOp.or = .and ∨ AluOp.or = .xor ∨ AluOp.or = AluOp.or := .inr (.inr rfl)

theorem test_witness_AccumulatorRotatesAndCarry : ((RotOp.rr, Instr.rra, 0x1F#8) : RotOp × Instr × Byte) ∈
    [(RotOp.rlc, Instr.rlca, 0x07#8), (RotOp.rrc, Instr.rrca, 0x0F#8), (RotOp.rl, Instr.rla, 0x17#8),
      (RotOp.rr, Instr.rra, 0x1F#8)] := by decide

theorem test_witness_DaaMakesDecimalArithmetic : let s := start [] [] (fun c => { c with a := 0x99 })
    99 < 100 ∧ 0 < 100 ∧ s.cpu.a = toBcd 99 ∧ (0x00 : Byte) = toBcd 0 := by decide

/-- The lowest source, and the highest with a lower one requested but not enabled. -/
theorem test_witness_DispatchTakesLowestPending :
    (let s := at0100 [] 0x1F 0xFF (fun c => { c with ime := true });
      s.cpu.fault = none ∧ s.cpu.stopped = false ∧ s.cpu.ime = true ∧ (s.ie &&& s.io.ifr).getLsbD Irq.vblank.bit = true ∧
      ∀ j, j < Irq.vblank.bit → (s.ie &&& s.io.ifr).getLsbD j = false) ∧
    (let s := at0100 [] 0x10 0xFF (fun c => { c with ime := true });
      (s.ie &&& s.io.ifr).getLsbD Irq.joypad.bit = true ∧
      ∀ j, j < Irq.joypad.bit → (s.ie &&& s.io.ifr).getLsbD j = false) := by decide

theorem test_witness_HaltStallsUntilPending : let s := at0100 [] 0x04 0xE1 (fun c => { c with halted := true, ime := true })
    s.cpu.fault = none ∧ s.cpu.stopped = false ∧ s.cpu.halted = true ∧ s.ie &&& s.io.ifr &&& 0x1F = 0 := by decide

theorem test_witness_EiTakesEffectAfterNextInstruction :
    (∀ p ∈ [(0x00#8, Instr.nop), (0xF3#8, .di), (0xFB#8, .ei)],
      let s := at0100 [p.1, 0x00, 0x00] 0x00 0xE1 (fun c => { c with imePending := true });
      s.cpu.fault = none ∧ s.cpu.stopped = false ∧ s.cpu.halted = false ∧ s.cpu.ime = false ∧ s.cpu.imePending = true ∧
      decode [busRead s s.cpu.pc, busRead s (s.cpu.pc + 1), busRead s (s.cpu.pc + 2)] = .ok (p.2, [0x00, 0x00]) ∧
      WellFormed p.2) ∧
    (let s := at0100 [0xFB] 0x00 0xE1 id;
      s.cpu.fault = none ∧ s.cpu.stopped = false ∧ s.cpu.halted = false ∧ s.cpu.ime = false ∧ s.cpu.imePending = false ∧
      busRead s s.cpu.pc = 0xFB) := by decide

/-- Each of the five flags does change. -/
theorem test_witness_ControlFlagsChangeOnlyByTheirInstructions :
    isNext (fun t => t.cpu.ime != base.cpu.ime) (exec .reti base) = true ∧
    isNext (fun t => t.cpu.imePending != base.cpu.imePending) (exec .ei base) = true ∧
    isNext (fun t => t.cpu.halted != base.cpu.halted) (exec .halt base) = true ∧
    isNext (fun t => t.cpu.stopped != base.cpu.stopped) (exec (.stop 0) base) = true := by decide

/-- A state of the invariant that is not the reset state: everything enabled, and code at 0x0100. -/
def lively : State := at0100 [0x22, 0x00, 0x00] 0x1F 0xE0 (fun c => { c with h := 0xC0 })

theorem lively_inv : Inv lively where
  f_low := by decide
  vram_wf := by decide
  wram_wf := by decide
  oam_wf := by decide
  hram_wf := by decide
  plain_wf := by decide
  rom_wf := by decide
  xram_wf := by decide
  fb_wf := by decide
  bgi_wf := by decide
  fb_rows := by
    intro e he
    cases he
  bgi_rows := by
    intro e he
    cases he
  mbc_ok := by decide
  p1_form := by decide
  placed := ⟨by decide, by decide, by decide⟩
  ly_line := by decide
  lcd_off := by decide
  div_lt := by decide
  tima_lt := by decide

/-- One cell seen at two addresses; two cells at the ends of WRAM's echo and HRAM; IE and a register without a hook. -/
theorem test_witness_PlainStoresLastWriteWins : Inv lively ∧
    [0xC000#16, 0xE000#16, 0xFDFF#16, 0xFE00#16, 0xFE9F#16, 0xFF0F#16, 0xFF80#16, 0xFFFE#16, 0xFFFF#16, 0x8000#16,
      0x9FFF#16].all (plainStore lively) = true ∧
    cellOf lively 0xC000 = cellOf lively 0xE000 ∧ cellOf lively 0xFDFF ≠ cellOf lively 0xFE00 :=
  ⟨lively_inv, by decide, by decide, by decide⟩

/-- The last echoed byte; a byte of WRAM that has no echo. -/
theorem test_witness_EchoRamAliasesWram : 0x1DFF < 0x1E00 ∧ cellOf base 0xDE00 = .wram 0x1E00 ∧ 0x1E00 ≤ 0x1E00 := by
  decide

/-- The ends of each range; a cartridge without RAM; an MBC1 with RAM disabled; a cartridge without a controller. -/
theorem test_witness_DroppedWrites :
    0xFEA0 ≤ (0xFEA0#16).toNat ∧ (0xFEFF#16).toNat < 0xFF00 ∧
    0xA000 ≤ (0xA000#16).toNat ∧ (0xBFFF#16).toNat < 0xC000 ∧
    (∀ s ∈ [base, mbc1], xramIndex s.cart 0 = none ∧ xramIndex s.cart 0x1FFF = none) ∧
    (0x7FFF#16).toNat < 0x8000 ∧ base.cart.mbc = .noMbc ∧ base.cart.ramSize.bytes = 0 ∧
    (State.powerOn ⟨[], .kib32, .kib2, [], .noMbc, []⟩ 0).cart.ramSize.bytes ≠ 0 := by decide

theorem test_witness_IoWriteHooks : ∀ off ∈ [0x01, 0x07, 0x0F, 0x47, 0x7F], off < 0x80 ∧
    off ∉ [0x00, 0x04, 0x40, 0x41, 0x44, 0x46] := by decide

theorem test_witness_DmaCopiesPageToOam : 0 < 160 ∧ 159 < 160 := by decide

/-- A store, with an address of another cell; a form that stores nothing. -/
theorem test_witness_MemoryFrame :
    (∃ t, exec .ldIndHliA lively = .next t ∧ true = true) ∧ storeAddrs .ldIndHliA lively = [0xC04D] ∧
    (storeAddrs .ldIndHliA lively).all (fun a => plainStore lively a && cellOf lively 0xC04E != cellOf lively a) = true ∧
    (∃ t, exec .cpAIndHl lively = .next t ∧ true = true) ∧ storeAddrs .cpAIndHl lively = [] :=
  ⟨exists_next (fun _ => true) (by decide), by decide, by decide, exists_next (fun _ => true) (by decide),
    by decide⟩

/-- Both ends of each register's range and of each window, on an MBC1. -/
theorem test_witness_Mbc1Banking : mbc1.cart.mbc = .mbc1 Mbc1.reset ∧
    [0x0000#16, 0x1FFF#16, 0x2000#16, 0x3FFF#16, 0x4000#16, 0x5FFF#16, 0x6000#16, 0x7FFF#16].all (·.toNat < 0x8000) = true ∧
    0x3FFF < 0x4000 ∧ 0x1FFF < 0x2000 ∧ (busWrite mbc1 0x1FFF 0x0A).cart.mbc = .mbc1 ⟨true, 1, 0, false⟩ ∧
    mbc1.cart.ramSize.bytes ≠ 0 := by decide

/-- The same on an MBC3; with RAM enabled and a RAM bank selected, and with a clock register selected. -/
theorem test_witness_Mbc3Banking : mbc3.cart.mbc = .mbc3 Mbc3.reset ∧
    (let s := busWrite (busWrite mbc3 0x0000 0x0A) 0x4000 0x03;
      s.cart.mbc = .mbc3 ⟨true, 1, 3⟩ ∧ s.cart.ramSize.bytes ≠ 0) ∧
    (busWrite mbc3 0x4000 0x08).cart.mbc = .mbc3 ⟨false, 1, 8⟩ ∧ 0x1FFF < 0x2000 := by decide

theorem lively_steps : ∃ t, step lively = .next t ∧ true = true := exists_next (fun _ => true) (by decide)

theorem test_witness_RomAndHeaderNeverChange : ∃ t, step lively = .next t := lively_steps.imp (fun _ h => h.1)

theorem test_witness_DivCountsCycles : (timerAt 0xFF 0 0 0x05 0xE0 255 15).timer.divAcc < 256 ∧
    (timerAt 0xFF 0 0 0x05 0xE0 255 15).io.tac.getLsbD 2 = true := by decide

/-- TIMA off; on, with no, one and two whole periods of 16 reached exactly, and the most a step of 24 cycles can reach. -/
theorem test_witness_TimaCountsAndOverflows :
    (timerAt 0 0 0 0xF8 0xE0 0 0).io.tac.getLsbD 2 = false ∧
    ∀ p ∈ [(0, 15, 0), (12, 4, 1), (8, 24, 2), (15, 24, 2)],
      let s := timerAt 0 0xFF 0 0x05 0xE0 0 p.1;
      s.io.tac.getLsbD 2 = true ∧ p.2.2 * 16 ≤ s.timer.timaAcc + p.2.1 ∧ s.timer.timaAcc + p.2.1 < (p.2.2 + 1) * 16 := by
  decide

/-- P1 shows the matrix at reset, with no button pressed and both groups selected. -/
theorem test_witness_JoypadUpdateAndInterrupt : base.io.p1 = 0xCF ∧ base.joypad.btn = Buttons.released := by decide

theorem beforeVBlank_placed : PpuPlaced beforeVBlank.ppu := ⟨by decide, by decide, by decide⟩

theorem test_witness_FramePositionAdvancesByCycles : PpuPlaced beforeVBlank.ppu ∧ beforeVBlank.io.lcdc.getLsbD 7 = true :=
  ⟨beforeVBlank_placed, by decide⟩

/-- The count that reaches cycle 65664 exactly; one that does not. -/
theorem test_witness_VBlankAtLine144 : PpuPlaced beforeVBlank.ppu ∧ beforeVBlank.io.lcdc.getLsbD 7 = true ∧
    framePosition beforeVBlank.ppu < 65664 ∧ 65664 ≤ framePosition beforeVBlank.ppu + 4 ∧
    ¬ 65664 ≤ framePosition beforeVBlank.ppu + 3 := ⟨beforeVBlank_placed, by decide, by decide, by decide, by decide⟩

theorem test_witness_SpritePixelWinner : (List.replicate 160 (default : Pixel)).length = 160 ∧ 159 < 160 := ⟨List.length_replicate, by decide⟩

/-- The corner pixel; a mode that renders and one that does not, on the last line and before it; cycles that end the mode. -/
theorem test_witness_BackgroundAndWindowPixels : 159 < 160 ∧ 143 < 144 ∧
    (let s := { base with ppu := { base.ppu with mode := .drawing, acc := 171 } };
      s.ppu.mode = .drawing ∧ s.io.lcdc.getLsbD 7 = true ∧ s.ppu.acc + 1 = s.ppu.mode.duration) ∧
    beforeVBlank.ppu.mode ≠ .drawing ∧
    (let s := { base with ppu := { base.ppu with mode := .vBlank, line := 153 } };
      s.ppu.mode ≠ .drawing ∧ s.ppu.mode = .vBlank ∧ 153 ≤ s.ppu.line) := by decide

/-- Each mode with its source enabled. -/
theorem test_witness_LycCheckAndLatch : let s := { base with io := { base.io with stat := 0xB8 } }
    (PpuMode.hBlank, 0, true) ∈ [(PpuMode.hBlank, 0, s.io.stat.getLsbD 3), (PpuMode.vBlank, 1, s.io.stat.getLsbD 4),
      (PpuMode.oamScan, 2, s.io.stat.getLsbD 5), (PpuMode.drawing, 3, false)] ∧
    (PpuMode.drawing, 3, false) ∈ [(PpuMode.hBlank, 0, s.io.stat.getLsbD 3), (PpuMode.vBlank, 1, s.io.stat.getLsbD 4),
      (PpuMode.oamScan, 2, s.io.stat.getLsbD 5), (PpuMode.drawing, 3, false)] := by decide

theorem test_witness_ResetValues : mbc1.cart.mbc = .mbc1 ⟨false, 1, 0, false⟩ ∧ mbc3.cart.mbc = .mbc3 ⟨false, 1, 0⟩ := by decide

theorem test_witness_StepKeepsInvariant : ∃ t, Inv lively ∧ step lively = .next t :=
  lively_steps.imp (fun _ h => ⟨lively_inv, h.1⟩)

/-- A state whose STAT agrees; and a step in which the mode changes while STAT did not agree. -/
theorem test_witness_StatModeBitsFollowMode :
    StatAgrees { lively with io := { lively.io with stat := 0x86 } } ∧
    isNext (fun _ => true) (step { lively with io := { lively.io with stat := 0x86 } }) = true ∧
    isNext (fun t => t.ppu.mode != lively.ppu.mode) (step { lively with ppu := { lively.ppu with acc := 79 } }) = true :=
  ⟨by unfold StatAgrees; decide +kernel, by decide, by decide⟩

/-- A file that loads, one too short, one with an unsupported controller, a bad size code of each kind, one shorter than
declared. -/
theorem test_witness_LoadedImageIsRead :
    (∃ s, loadMachine (List.replicate 0x8000 0) 0 = .ok s) ∧ ([] : List Byte).length < 0x150 ∧
    (let file := List.replicate 0x150 0xFF#8;
      0x150 ≤ file.length ∧ file.getD 0x147 0 ∉ [0x00#8, 0x01#8, 0x02#8, 0x03#8, 0x11#8, 0x12#8, 0x13#8]) ∧
    6 < ((List.replicate 0x149 7#8).getD 0x148 0).toNat ∧ 5 < ((List.replicate 0x150 6#8).getD 0x149 0).toNat ∧
    (let file := List.replicate 0x150 0x01#8;
      0x150 ≤ file.length ∧ file.getD 0x147 0 ∈ [0x00#8, 0x01#8, 0x02#8, 0x03#8, 0x11#8, 0x12#8, 0x13#8] ∧
      (file.getD 0x148 0).toNat ≤ 6 ∧ (file.getD 0x149 0).toNat ≤ 5 ∧ file.length < 2 ^ ((file.getD 0x148 0).toNat + 1) * 0x4000) := by
  have h (n i : Nat) (v d : Byte) (hi : i < n) : (List.replicate n v).getD i d = v := by
    rw [List.getD_eq_getElem?_getD, List.getElem?_replicate, if_pos hi]
    rfl
  refine ⟨?_, by decide, ⟨by rw [List.length_replicate], by rw [h _ _ _ _ (by decide)]; decide⟩,
    by rw [h _ _ _ _ (by decide)]; decide, by rw [h _ _ _ _ (by decide)]; decide, ?_⟩
  rotate_left
  · dsimp only
    rw [List.length_replicate, h _ _ _ _ (by decide), h _ _ _ _ (by decide), h _ _ _ _ (by decide)]
    decide
  unfold loadMachine parseCart
  rw [if_neg (by rw [List.length_replicate]; decide), h _ _ _ _ (by decide), h _ _ _ _ (by decide), h _ _ _ _ (by decide)]
  dsimp only [Mbc.ofCode, RomSize.ofCode, RamSize.ofCode]
  rw [List.length_replicate]
  exact ⟨_, rfl⟩

/-- Whether a frame ends complete, with a property of the state it leaves. -/
def isDone (p : State → Bool) : FrameEnd → Bool
  | .done t => p t
  | _ => false

/-- A frame already over; one that an instruction of 8 cycles ends 4 beyond; a fault and a refusal. -/
theorem test_witness_RunFrameAccumulatesCycles :
    let near := { lively with frameTotal := 70220 }
    isNext (fun _ => true) (step near) = true ∧ isDone (fun t => t.frameTotal == 4) (runFrame near) = true ∧
    isDone (fun t => t.frameTotal == 1) (runFrame { lively with frameTotal := 70225 }) = true ∧
    isFault (.illegalOpcode 0xFD 0x0100) (step (at0100 [0xFD] 0 0xE0 id)) = true ∧
    isRefused .stopped (step (start [] [] (fun c => { c with stopped := true }))) = true := by decide

/-! ### The first instruction after reset, with its cartridge free (log 6) -/

/-- INC A, and the prefixed SET 7,A, placed at 0x0100 of the reset state. -/
theorem test_withFetchWord :
    isNext (fun t => t.cpu.a == 0x02 && t.cpu.pc == 0x0101) (step (State.reset.withFetchWord 8 0x3C)) = true ∧
    isNext (fun t => t.cpu.a == 0x81 && t.cpu.pc == 0x0102) (step (State.reset.withFetchWord 16 0xCBFF)) = true := by decide

end Sys2Proof.Tests
end

section
/-! PROOFS of family 10_state.md. A rendered line has 160 pixels, which keeps the form of the picture (R57, R58). -/

namespace Sys2Proof.Machine

@[simp] theorem backgroundPass_length (s : State) (ly : Nat) : (backgroundPass s ly).length = 160 := by
  unfold backgroundPass
  split
  · rw [List.length_map, List.length_range]
  · exact List.length_replicate

@[simp] theorem windowPass_length (s : State) (ly : Nat) (row : List Pixel) :
    (windowPass s ly row).length = row.length := by
  unfold windowPass
  split
  · exact List.length_mapIdx
  · rfl

@[simp] theorem drawSpritePixel_length (s : State) (ly : Nat) (sp : Sprite) (row : List Pixel) (px : Nat) :
    (drawSpritePixel s ly sp row px).length = row.length := by
  unfold drawSpritePixel
  extract_lets
  split_ifs
  case neg => exact List.length_modify ..
  all_goals rfl

@[simp] theorem drawSprite_length (s : State) (ly : Nat) (sp : Sprite) (row : List Pixel) :
    (drawSprite s ly sp row).length = row.length :=
  List.foldlRecOn (motive := fun r : List Pixel => r.length = row.length) _ _ rfl
    fun _ h px _ => (drawSpritePixel_length s ly sp _ px).trans h

@[simp] theorem spritePass_length (s : State) (ly : Nat) (row : List Pixel) :
    (spritePass s ly row).length = row.length := by
  unfold spritePass
  split
  · exact List.foldrRecOn (motive := fun r : List Pixel => r.length = row.length) _ _ rfl
      fun _ h sp _ => (drawSprite_length s ly sp _).trans h
  · rfl

@[simp] theorem linePixels_length (s : State) (ly : Nat) : (linePixels s ly).length = 160 := by
  rw [linePixels, spritePass_length, windowPass_length, backgroundPass_length]

/-- A row of 160 entries stored at a line of the screen keeps the picture's form. -/
theorem RowsOk.put {rows : Store (List (BitVec 2))} (h : RowsOk rows) {y : Nat} {row : List (BitVec 2)} (hy : y < 144)
    (hrow : row.length = 160) : RowsOk (Store.put rows y row) := by
  intro e he
  rcases Store.mem_put he with rfl | he
  · exact ⟨hy, hrow⟩
  · exact h e he

end Sys2Proof.Machine
end

section
/-! PROOFS of family 10_state.md. The clauses of `Inv` that speak of the PPU: every transition keeps those about the picture
and the line, and the loop of `PpuStep` ends with fewer cycles accumulated than the mode lasts (R371). -/

namespace Sys2Proof.Machine

/-- The clauses of `Inv` about the picture and the line. They hold between the rounds of the PPU's loop too, where the
accumulator may still hold the cycles of the mode that ends. -/
structure LineInv (p : Ppu) (ly : Byte) : Prop where
  fb_wf : Store.wf p.fb
  bgi_wf : Store.wf p.bgi
  fb_rows : RowsOk p.fb
  bgi_rows : RowsOk p.bgi
  line_le : p.line ≤ 153
  vBlank_iff : p.mode = .vBlank ↔ 144 ≤ p.line
  ly_line : ly = BitVec.ofNat 8 p.line

theorem Inv.lineInv {s : State} (h : Inv s) : LineInv s.ppu s.io.ly := { h, h.placed with }

/-- The PPU is where it rests while the LCD is off (R372). -/
def AtFrameStart (p : Ppu) : Prop := p.line = 0 ∧ p.mode = .oamScan ∧ p.acc = 0

theorem AtFrameStart.acc_lt {p : Ppu} (h : AtFrameStart p) : p.acc < p.mode.duration := by
  obtain ⟨_, hmode, hacc⟩ := h
  rw [hmode, hacc]
  decide

/-! ### The parts of a transition -/

theorem lineInv_enterMode {s : State} {m : PpuMode} (h : LineInv s.ppu s.io.ly) (hm : m = .vBlank ↔ 144 ≤ s.ppu.line) :
    LineInv (enterMode m s).ppu (enterMode m s).io.ly := by
  rw [enterMode_ppu, enterMode_ly]
  exact { h with vBlank_iff := hm }

/-- A new line, whatever the mode: the mode it is to have is entered next. -/
theorem lineInv_setLine_enterMode {s : State} {n : Nat} {m : PpuMode} (h : LineInv s.ppu s.io.ly) (hn : n ≤ 153)
    (hm : m = .vBlank ↔ 144 ≤ n) :
    LineInv (enterMode m (setLine n s)).ppu (enterMode m (setLine n s)).io.ly := by
  rw [enterMode_ppu, enterMode_ly, setLine_ppu, setLine_ly]
  exact { h with line_le := hn, vBlank_iff := hm, ly_line := rfl }

theorem lineInv_setLine {s : State} {n : Nat} (h : LineInv s.ppu s.io.ly) (hn : n ≤ 153)
    (hm : s.ppu.mode = .vBlank ↔ 144 ≤ n) : LineInv (setLine n s).ppu (setLine n s).io.ly := by
  rw [setLine_ppu, setLine_ly]
  exact { h with line_le := hn, vBlank_iff := hm, ly_line := rfl }

theorem lineInv_renderLine {s : State} {y : Nat} (h : LineInv s.ppu s.io.ly) (hy : y < 144) :
    LineInv (renderLine s y).ppu (renderLine s y).io.ly :=
  { h with
    fb_wf := Store.put_wf _ _ h.fb_wf
    bgi_wf := Store.put_wf _ _ h.bgi_wf
    fb_rows := h.fb_rows.put hy ((List.length_map _).trans (linePixels_length s y))
    bgi_rows := h.bgi_rows.put hy ((List.length_map _).trans (linePixels_length s y)) }

/-! ### The transitions -/

/-- `s` with the cycles of its mode taken from the accumulator, as a transition begins (R371). -/
def modeSpent (s : State) : State := { s with ppu := { s.ppu with acc := s.ppu.acc - s.ppu.mode.duration } }

theorem ppuTransition_oamScan {s : State} (h : s.ppu.mode = .oamScan) :
    ppuTransition s = enterMode .drawing (modeSpent s) := by
  unfold ppuTransition modeSpent
  rw [h]

theorem ppuTransition_drawing {s : State} (h : s.ppu.mode = .drawing) :
    ppuTransition s = enterMode .hBlank (renderLine (modeSpent s) s.ppu.line) := by
  unfold ppuTransition modeSpent
  rw [h]

theorem ppuTransition_hBlank {s : State} (h : s.ppu.mode = .hBlank) (hl : s.ppu.line ≠ 143) :
    ppuTransition s = enterMode .oamScan (setLine (s.ppu.line + 1) (modeSpent s)) := by
  unfold ppuTransition modeSpent
  rw [h]
  dsimp only
  rw [if_neg (by rw [setLine_line]; omega)]

theorem ppuTransition_hBlank_last {s : State} (h : s.ppu.mode = .hBlank) (hl : s.ppu.line = 143) :
    ppuTransition s =
      let v := (enterMode .vBlank (setLine 144 (modeSpent s))).requestInterrupt .vblank
      { v with ppu := { v.ppu with frameReady := true } } := by
  unfold ppuTransition modeSpent
  rw [h]
  dsimp only
  rw [hl, if_pos (setLine_line _ _)]

theorem ppuTransition_vBlank {s : State} (h : s.ppu.mode = .vBlank) (hl : s.ppu.line < 153) :
    ppuTransition s = setLine (s.ppu.line + 1) (modeSpent s) := by
  unfold ppuTransition modeSpent
  rw [h]
  dsimp only
  rw [if_neg (by omega)]

theorem ppuTransition_vBlank_last {s : State} (h : s.ppu.mode = .vBlank) (hl : 153 ≤ s.ppu.line) :
    ppuTransition s = enterMode .oamScan (setLine 0
      { modeSpent s with ppu := { (modeSpent s).ppu with winLine := 0 } }) := by
  unfold ppuTransition modeSpent
  rw [h]
  dsimp only
  rw [if_pos (by omega)]

/-! ### Transition, loop, step -/

/-- A transition keeps the clauses about the picture and the line: a line is rendered only in mode 3, so below 144; line 144
is entered in mode 1, every other line but those of VBlank in mode 2 (R374). -/
theorem ppuTransition_lineInv {s : State} (h : LineInv s.ppu s.io.ly) :
    LineInv (ppuTransition s).ppu (ppuTransition s).io.ly := by
  have hle := h.line_le
  have hiff := h.vBlank_iff
  have ht : LineInv (modeSpent s).ppu (modeSpent s).io.ly := { h with }
  cases hm : s.ppu.mode <;> simp only [hm, reduceCtorEq, true_iff, false_iff, not_le] at hiff
  case oamScan =>
    rw [ppuTransition_oamScan hm]
    exact lineInv_enterMode ht (iff_of_false nofun (not_le.2 hiff))
  case drawing =>
    rw [ppuTransition_drawing hm]
    exact lineInv_enterMode (lineInv_renderLine ht hiff) (iff_of_false nofun (not_le.2 hiff))
  case hBlank =>
    by_cases hl : s.ppu.line = 143
    · rw [ppuTransition_hBlank_last hm hl]
      exact { lineInv_setLine_enterMode (n := 144) (m := .vBlank) ht (by decide) (by decide) with }
    · rw [ppuTransition_hBlank hm hl]
      exact lineInv_setLine_enterMode ht (by omega) (iff_of_false nofun (by omega))
  case vBlank =>
    by_cases hl : s.ppu.line < 153
    · rw [ppuTransition_vBlank hm hl]
      exact lineInv_setLine ht (by omega) (iff_of_true hm (by omega))
    · rw [ppuTransition_vBlank_last hm (by omega)]
      exact lineInv_setLine_enterMode { ht with } (by decide) (by decide)

/-- The loop of `PpuStep` keeps those clauses, and with rounds enough it ends before the end of a mode. -/
theorem ppuLoop_lineInv {n : Nat} {s : State} (h : LineInv s.ppu s.io.ly) (hn : s.ppu.acc < 80 * n) :
    LineInv (ppuLoop n s).ppu (ppuLoop n s).io.ly ∧ (ppuLoop n s).ppu.acc < (ppuLoop n s).ppu.mode.duration := by
  induction n generalizing s with
  | zero => omega
  | succ n ih =>
    unfold ppuLoop
    split
    next hacc => exact ⟨h, hacc⟩
    next =>
      have hdur := s.ppu.mode.duration_ge
      exact ih (ppuTransition_lineInv h) (by rw [ppuTransition_acc]; omega)

theorem lcdOffReset_atFrameStart (s : State) : AtFrameStart (lcdOffReset s).ppu := by
  unfold lcdOffReset
  split
  next h => exact h
  next => exact ⟨rfl, rfl, rfl⟩

theorem lcdOffReset_lineInv {s : State} (h : LineInv s.ppu s.io.ly) :
    LineInv (lcdOffReset s).ppu (lcdOffReset s).io.ly := by
  unfold lcdOffReset
  split
  next => exact h
  next => exact { h with line_le := Nat.zero_le _, vBlank_iff := by simp, ly_line := rfl }

/-- `PpuStep` leaves the PPU at a place of its frame: by its loop while the LCD is on, at the start of the frame while it is
off (R371, R372). -/
theorem ppuStep_lineInv {s : State} (h : LineInv s.ppu s.io.ly) (c : Nat) :
    LineInv (ppuStep c s).ppu (ppuStep c s).io.ly ∧ (ppuStep c s).ppu.acc < (ppuStep c s).ppu.mode.duration ∧
      (s.io.lcdc.getLsbD 7 = false → AtFrameStart (ppuStep c s).ppu) := by
  unfold ppuStep
  split
  next hon =>
    have hrounds : s.ppu.acc + c < 80 * ((s.ppu.acc + c) / 80 + 1) := by omega
    obtain ⟨hline, hacc⟩ := ppuLoop_lineInv (s := { s with ppu := { s.ppu with acc := s.ppu.acc + c } })
      { h with } hrounds
    exact ⟨hline, hacc, fun hoff => absurd (hoff.symm.trans hon) Bool.false_ne_true⟩
  next =>
    have hstart := lcdOffReset_atFrameStart s
    exact ⟨lcdOffReset_lineInv h, hstart.acc_lt, fun _ => hstart⟩

end Sys2Proof.Machine
end

section
/-! PROOFS of family 10_state.md. `Inv` but for the timer's clauses: every bus write, every CPU step and the PPU's step keep
it; the timer step then brings both accumulators below their periods (R353). -/

namespace Sys2Proof.Machine

/-- The invariant without its clauses about the accumulators. A write to TAC can leave the TIMA accumulator at or above the
new period until the timer step of the same machine step, so a CPU step keeps this and not `Inv` (R350, R353). -/
abbrev InvButTimer (s : State) : Prop := Inv { s with timer := ⟨0, 0⟩ }

theorem Inv.butTimer {s : State} (h : Inv s) : InvButTimer s :=
  { h with div_lt := Nat.zero_lt_succ _, tima_lt := fun _ => timaPeriod_pos _ }

theorem InvButTimer.lineInv {s : State} (h : InvButTimer s) : LineInv s.ppu s.io.ly :=
  Inv.lineInv (s := { s with timer := ⟨0, 0⟩ }) h

theorem InvButTimer.withCpu {s : State} (h : InvButTimer s) {c : Cpu} (n : Nat) (hf : c.f &&& 0x0F = 0) :
    InvButTimer (s.withCpu c n) := { h with f_low := hf }

/-- New values of LCDC and of what the PPU may change (`PpuFrame`): the clauses about them are all there is to show. -/
theorem InvButTimer.withPpu {s : State} (h : InvButTimer s) {p : Ppu} {ly lcdc : Byte} (stat ifr : Byte)
    (hline : LineInv p ly) (hacc : p.acc < p.mode.duration) (hoff : lcdc.getLsbD 7 = false → AtFrameStart p) :
    InvButTimer { s with io := { s.io with lcdc := lcdc, stat := stat, ly := ly, ifr := ifr }, ppu := p } :=
  { hline, h with
    placed := { hline with acc_lt := hacc }
    lcd_off := hoff }

/-! ### P1 -/

/-- P1 depends on its old value by the select bits alone (R361). -/
theorem p1Value_congr (btn : Buttons) {p q : Byte} (h : p &&& 0x30 = q &&& 0x30) : p1Value btn p = p1Value btn q := by
  have hbit (i : Nat) (hi : (0x30#8).getLsbD i = true) : p.getLsbD i = q.getLsbD i := by
    simpa [BitVec.getLsbD_and, hi] using congrArg (fun v : Byte => v.getLsbD i) h
  unfold p1Value matrix
  rw [h, hbit 5 rfl, hbit 4 rfl]

/-- P1 keeps its select bits. -/
theorem p1Value_select (btn : Buttons) (p : Byte) : p1Value btn p &&& 0x30 = p &&& 0x30 := by
  have hm (m : BitVec 4) : m.setWidth 8 &&& (0x30 : Byte) = 0 := by
    revert m
    decide
  rw [p1Value, BitVec.and_or_distrib_right, BitVec.and_or_distrib_right, hm, BitVec.and_assoc]
  simp

/-- The form of P1 is reached at the first update. -/
theorem p1Value_p1Value (btn : Buttons) (p : Byte) : p1Value btn (p1Value btn p) = p1Value btn p :=
  p1Value_congr btn (p1Value_select btn p)

/-! ### Bus writes -/

theorem mbcOk_mbc1Write {r : Mbc1} (h : mbcOk (.mbc1 r)) (a : Nat) (v : Byte) : mbcOk (.mbc1 (mbc1Write r a v)) := by
  unfold mbc1Write
  split_ifs
  · exact h
  · rfl
  next hv => simpa [mbcOk] using hv
  · exact h
  · exact h

theorem mbcOk_mbc3Write {r : Mbc3} (h : mbcOk (.mbc3 r)) (a : Nat) (v : Byte) : mbcOk (.mbc3 (mbc3Write r a v)) := by
  unfold mbc3Write
  split_ifs
  · exact h
  · rfl
  next hv => simpa [mbcOk] using hv
  · exact h
  · exact h

/-- A control write leaves no ROM bank register 0: a 0 written is stored as 1 (R119, R123). -/
protected theorem InvButTimer.cartWriteControl {s : State} (h : InvButTimer s) (a : Nat) (v : Byte) :
    InvButTimer { s with cart := cartWriteControl s.cart a v } := by
  have hok : mbcOk s.cart.mbc = true := h.mbc_ok
  unfold cartWriteControl
  split
  next => exact h
  next r hm => exact { h with mbc_ok := mbcOk_mbc1Write (hm ▸ hok) a v }
  next r hm => exact { h with mbc_ok := mbcOk_mbc3Write (hm ▸ hok) a v }

protected theorem InvButTimer.cartWriteRam {s : State} (h : InvButTimer s) (off : Nat) (v : Byte) :
    InvButTimer { s with cart := cartWriteRam s.cart off v } := by
  unfold cartWriteRam
  split
  next => exact { h with xram_wf := Store.put_wf _ _ h.xram_wf }
  next => exact h

/-- The joypad update gives P1 the form the invariant asks for, whatever P1 held. -/
protected theorem InvButTimer.writeP1 {s : State} (h : InvButTimer s) (v : Byte) : InvButTimer (writeP1 s v) := by
  obtain ⟨ifr, e⟩ := joypadUpdate_frame (s.setIo .p1 (0xC0 ||| (v &&& 0x30) ||| (s.io.p1 &&& 0x0F)))
  rw [writeP1, e]
  exact { h with p1_form := (p1Value_p1Value _ _).symm }

/-- The LCDC write: with bit 7 set nothing else changes; with it clear the PPU goes to the start of its frame (R90). -/
theorem InvButTimer.writeLcdc {s : State} (h : InvButTimer s) (v : Byte) :
    InvButTimer (if v.getLsbD 7 then s.setIo .lcdc v else lcdOffReset (s.setIo .lcdc v)) := by
  split
  next hv =>
    exact h.withPpu s.io.stat s.io.ifr h.lineInv h.placed.acc_lt fun hoff => absurd (hoff.symm.trans hv) Bool.false_ne_true
  next hv =>
    have hstart := lcdOffReset_atFrameStart (s.setIo .lcdc v)
    have hline := lcdOffReset_lineInv (s := s.setIo .lcdc v) h.lineInv
    rw [lcdOffReset_frame (s.setIo .lcdc v)]
    exact h.withPpu _ _ hline hstart.acc_lt fun _ => hstart

theorem IoFile.set_plain_wf {io : IoFile} (h : Memory.wf io.plain) (off : Nat) (v : Byte) :
    Memory.wf (io.set off v).plain := by
  unfold IoFile.set
  split
  next r _ => exact (IoFile.setReg_plain io r v).symm ▸ h
  next => exact Store.put_wf _ _ h

protected theorem InvButTimer.ioWrite {s : State} (h : InvButTimer s) (off : Nat) (v : Byte) :
    InvButTimer (ioWrite s off v) := by
  obtain ⟨-, e⟩ | ⟨-, e⟩ | ⟨-, e⟩ | ⟨-, e⟩ | ⟨-, e⟩ | ⟨-, e⟩ | ⟨hoff, e⟩ := ioWrite_cases s off v <;> rw [e]
  · exact h.writeP1 v
  · exact { h with }
  · exact h.writeLcdc v
  · exact { h with }
  · exact h
  · obtain ⟨oam, e, hwf⟩ := dmaCopy_frame v (s.setIo .dma v)
    rw [e]
    exact { h with oam_wf := hwf h.oam_wf }
  · obtain ⟨hp1, -, hlcdc, -, hly, -⟩ := ioSet_other s.io v hoff
    exact { h with
      plain_wf := IoFile.set_plain_wf h.plain_wf off v
      p1_form := hp1.symm ▸ h.p1_form
      ly_line := hly.trans h.ly_line
      lcd_off := fun hv => h.lcd_off (hlcdc ▸ hv)
      tima_lt := fun _ => timaPeriod_pos _ }

/-- No bus write breaks the invariant, the timer's clauses aside (R73). -/
protected theorem InvButTimer.busWrite {s : State} (h : InvButTimer s) (a : Word) (v : Byte) :
    InvButTimer (busWrite s a v) := by
  obtain ⟨m, e, hwf⟩ | ⟨m, e, hwf⟩ | ⟨m, e, hwf⟩ | ⟨m, e, hwf⟩ | e | e | ⟨c, e, rfl | ⟨off, rfl⟩⟩ | ⟨off, e⟩ :=
    busWrite_cases s a v <;> rw [e]
  · exact { h with vram_wf := hwf h.vram_wf }
  · exact { h with wram_wf := hwf h.wram_wf }
  · exact { h with oam_wf := hwf h.oam_wf }
  · exact { h with hram_wf := hwf h.hram_wf }
  · exact { h with }
  · exact h
  · exact h.cartWriteControl _ v
  · exact h.cartWriteRam off v
  · exact h.ioWrite off v

protected theorem InvButTimer.applyStores {s : State} (h : InvButTimer s) (addrs : List Word) (vs : List Byte) :
    InvButTimer (applyStores s addrs vs) := by
  induction addrs generalizing s vs with
  | nil => exact h
  | cons a as ih =>
    cases vs with
    | nil => exact h
    | cons v vs => exact ih (h.busWrite a v) vs

/-! ### The CPU step -/

/-- `r`, where it is a next state, is one that satisfies the invariant, the timer's clauses aside. -/
def KeepsInv (r : Result) : Prop := ∀ t, r = .next t → InvButTimer t

theorem keepsInv_next {s : State} (h : InvButTimer s) : KeepsInv (.next s) := by
  rintro t ⟨⟩
  exact h

theorem keepsInv_refused (e : Refusal) : KeepsInv (.refused e) := by
  rintro t ⟨⟩

theorem keepsInv_exec {s : State} (h : InvButTimer s) (i : Instr) : KeepsInv (exec i s) := by
  intro t ht
  obtain ⟨vs, c, n, -, e, -, hf, -⟩ := exec_next ht
  obtain rfl : t = (applyStores s (storeAddrs i s) vs).withCpu c n := by injection e
  exact (h.applyStores _ vs).withCpu n (hf.elim (fun hf => hf ▸ h.f_low) id)

theorem keepsInv_dispatch {s : State} (h : InvButTimer s) (k : Irq) : KeepsInv (dispatchInterrupt k s) := by
  rw [dispatchInterrupt_eq]
  have hif : InvButTimer (s.setIo .ifr (s.io.ifr &&& ~~~k.mask)) := { h with }
  exact keepsInv_next (((hif.busWrite _ _).busWrite _ _).withCpu 20 h.f_low)

theorem keepsInv_promoteEi {r : Result} (h : KeepsInv r) (latched : Bool) : KeepsInv (promoteEi latched r) := by
  cases r with
  | next u =>
    have hu : InvButTimer u := h u rfl
    unfold promoteEi
    dsimp only
    split
    · exact keepsInv_next { hu with }
    · exact h
  | fault e => exact h
  | refused e => exact h

theorem keepsInv_stallOrExecute {s : State} (h : InvButTimer s) : KeepsInv (stallOrExecute s) := by
  unfold stallOrExecute
  split
  · exact keepsInv_next (h.withCpu (c := s.cpu) 4 h.f_low)
  · exact keepsInv_promoteEi (keepsInv_exec h _) _

theorem keepsInv_cpuStep {s : State} (h : InvButTimer s) : KeepsInv (cpuStep s) := by
  unfold cpuStep
  split
  next => exact keepsInv_refused _
  split
  next => exact keepsInv_refused _
  split
  next k _ =>
    split
    · exact keepsInv_dispatch h k
    · exact keepsInv_stallOrExecute { h with }
  next => exact keepsInv_stallOrExecute h

/-! ### The devices and the machine step -/

protected theorem InvButTimer.ppuStep {s : State} (h : InvButTimer s) (c : Nat) : InvButTimer (ppuStep c s) := by
  obtain ⟨hline, hacc, hoff⟩ := ppuStep_lineInv h.lineInv c
  rw [ppuStep_frame c s]
  exact h.withPpu _ _ hline hacc hoff

/-- The timer step brings both accumulators below their periods, whatever they held (R353). -/
theorem inv_timerStep {s : State} (h : InvButTimer s) (c : Nat) : Inv (timerStep c s) := by
  obtain ⟨div, tima, ifr, acc, e, -, -, hacc⟩ := timerStep_frame c s
  rw [e]
  exact { h with div_lt := Nat.mod_lt _ (by decide), tima_lt := hacc }

/-- Settles O56: the CPU step keeps the invariant but for the timer's clauses, the PPU's step too, and the timer step
restores those. -/
theorem stepKeepsInvariant : Obligations.StepKeepsInvariant := by
  unfold Obligations.StepKeepsInvariant step machineStep
  intro s t h ht
  split at ht
  next u hu =>
    obtain rfl : advanceDevices u = t := by injection ht
    have hcpu : InvButTimer u := keepsInv_cpuStep h.butTimer u hu
    exact inv_timerStep (hcpu.ppuStep _) _
  next => cases ht
  next => cases ht

end Sys2Proof.Machine
end

section
/-! PROOFS of family 10_state.md. The state after reset (R30, R63). -/

namespace Sys2Proof.Machine

theorem mbcOk_reset (m : Mbc) : mbcOk m.reset = true := by
  cases m <;> rfl

/-- P1 at reset is what both select bits low and no key pressed give (R361). -/
theorem p1Value_reset : p1Value Buttons.released 0xCF = 0xCF := by decide

theorem ppuPlaced_reset : PpuPlaced Ppu.reset := ⟨by decide, by decide, by decide⟩

/-- Every cartridge whose image is in canonical form starts in a state of the invariant. -/
theorem inv_powerOn {c : Cart} (hrom : Memory.wf c.rom) (epoch : Nat) : Inv (State.powerOn c epoch) where
  f_low := (by decide : Cpu.reset.f &&& 0x0F = 0)
  vram_wf := .nil
  wram_wf := .nil
  oam_wf := .nil
  hram_wf := .nil
  plain_wf := .nil
  rom_wf := hrom
  xram_wf := .nil
  fb_wf := .nil
  bgi_wf := .nil
  fb_rows := nofun
  bgi_rows := nofun
  mbc_ok := mbcOk_reset c.mbc
  p1_form := p1Value_reset.symm
  placed := ppuPlaced_reset
  ly_line := rfl
  lcd_off := fun _ => ⟨rfl, rfl, rfl⟩
  div_lt := Nat.zero_lt_succ _
  tima_lt := fun _ => timaPeriod_pos _

/-- The image of the reset cartridge lists its three header bytes in order. -/
theorem inserted_rom_wf : Memory.wf Cart.inserted.rom := by
  simp [Cart.inserted]

/-- Settles O57: the power-on state of the cartridge that is inserted at reset. -/
theorem resetSatisfiesInvariant : Obligations.ResetSatisfiesInvariant := inv_powerOn inserted_rom_wf 0

/-- Settles O55: each value is the one `State.powerOn` writes; a controller's registers are those of `Mbc.reset`. -/
theorem resetValues : Obligations.ResetValues := by
  unfold Obligations.ResetValues
  intro s t
  have hmbc (m : Mbc) (hm : s.cart.mbc = m) : t.cart.mbc = m.reset := congrArg Mbc.reset hm
  exact ⟨rfl, rfl, rfl, rfl, rfl, rfl, rfl, rfl, rfl, rfl, rfl, rfl, rfl, rfl, rfl, rfl, rfl, rfl, rfl, rfl,
    fun r hr => hmbc _ hr, fun r hr => hmbc _ hr, rfl⟩

end Sys2Proof.Machine
end

section
/-! PROOFS of family 20_memory.md. The region table (R71): the location of an address by its range, and the addresses that show a
byte of WRAM or OAM. -/

namespace Sys2Proof.Machine

theorem locate_of_lt_4000 {a : Word} (h : a.toNat < 0x4000) : locate a = .bank0 a.toNat := by
  grind [locate]

theorem locate_of_lt_8000 {a : Word} (hlo : 0x4000 ≤ a.toNat) (hhi : a.toNat < 0x8000) :
    locate a = .bankN (a.toNat - 0x4000) := by
  grind [locate]

theorem locate_of_xram {a : Word} (hlo : 0xA000 ≤ a.toNat) (hhi : a.toNat < 0xC000) :
    locate a = .xram (a.toNat - 0xA000) := by
  grind [locate]

theorem locate_of_wram {a : Word} (hlo : 0xC000 ≤ a.toNat) (hhi : a.toNat < 0xE000) :
    locate a = .wram (a.toNat - 0xC000) := by
  grind [locate]

theorem locate_of_echo {a : Word} (hlo : 0xE000 ≤ a.toNat) (hhi : a.toNat < 0xFE00) :
    locate a = .wram (a.toNat - 0xE000) := by
  grind [locate]

theorem locate_of_unusable {a : Word} (hlo : 0xFEA0 ≤ a.toNat) (hhi : a.toNat < 0xFF00) : locate a = .unusable := by
  grind [locate]

theorem locate_of_io {a : Word} (hlo : 0xFF00 ≤ a.toNat) (hhi : a.toNat < 0xFF80) :
    locate a = .io (a.toNat - 0xFF00) := by
  grind [locate]

/-- A byte of WRAM is shown in its own range, or in the range of its echo (R74). -/
theorem toNat_of_locate_wram {a : Word} {i : Nat} (h : locate a = .wram i) :
    (i < 0x2000 ∧ a.toNat = 0xC000 + i) ∨ (i < 0x1E00 ∧ a.toNat = 0xE000 + i) := by
  by_cases hlo : a.toNat < 0xC000 <;> grind [locate]

theorem toNat_of_locate_oam {a : Word} {i : Nat} (h : locate a = .oam i) : i < 0xA0 ∧ a.toNat = 0xFE00 + i := by
  by_cases hlo : a.toNat < 0xFE00 <;> grind [locate]

theorem toNat_ofNat_word {n : Nat} (h : n < 0x10000) : (BitVec.ofNat 16 n).toNat = n := by
  rw [BitVec.toNat_ofNat, Nat.mod_eq_of_lt h]

end Sys2Proof.Machine
end

section
/-! PROOFS of family 20_memory.md. Plain stores: two to one cell, two to different cells, and the stores of an instruction
(R73, R99, R103). -/

namespace Sys2Proof.Machine

/-- Writes at two indices give one array, in either order. -/
theorem Store.put_put_comm {α : Type} (m : Store α) {i j : Nat} (v w : α) (h : i ≠ j) :
    Store.put (Store.put m i v) j w = Store.put (Store.put m j w) i v := by
  induction m with
  | nil => grind [Store.put]
  | cons e m ih => grind [Store.put]

/-- The I/O file is its listed registers and its other bytes. -/
theorem IoFile.ext_reg {io io' : IoFile} (hreg : ∀ r, io.reg r = io'.reg r) (hplain : io.plain = io'.plain) : io = io' := by
  cases io
  cases io'
  congr
  exacts [hreg .p1, hreg .sb, hreg .sc, hreg .div, hreg .tima, hreg .tma, hreg .tac, hreg .ifr, hreg .lcdc, hreg .stat,
    hreg .scy, hreg .scx, hreg .ly, hreg .lyc, hreg .dma, hreg .bgp, hreg .obp0, hreg .obp1, hreg .wy, hreg .wx]

theorem IoFile.set_of_reg {io : IoFile} {off : Nat} {r : IoReg} (v : Byte) (h : IoReg.at? off = some r) :
    io.set off v = io.setReg r v := by
  unfold IoFile.set
  rw [h]

theorem IoFile.set_of_plain {io : IoFile} {off : Nat} (v : Byte) (h : IoReg.at? off = none) :
    io.set off v = { io with plain := Store.put io.plain off v } := by
  unfold IoFile.set
  rw [h]

/-- The later of two stores to one I/O byte wins. -/
theorem IoFile.set_set_same (io : IoFile) (off : Nat) (v w : Byte) : (io.set off v).set off w = io.set off w := by
  cases h : IoReg.at? off with
  | none => simp only [IoFile.set_of_plain _ h, Store.put_put_same]
  | some r =>
    simp only [IoFile.set_of_reg _ h]
    refine IoFile.ext_reg (fun q => ?_) (by simp)
    by_cases hq : q = r <;> simp [hq]

/-- Stores to two I/O bytes give one file, in either order. -/
theorem IoFile.set_set_comm (io : IoFile) {off off' : Nat} (v w : Byte) (h : off ≠ off') :
    (io.set off v).set off' w = (io.set off' w).set off v := by
  cases ho : IoReg.at? off with
  | none =>
    cases ho' : IoReg.at? off' with
    | none => simp only [IoFile.set_of_plain _ ho, IoFile.set_of_plain _ ho', Store.put_put_comm _ v w h]
    | some r =>
      simp only [IoFile.set_of_plain _ ho, IoFile.set_of_reg _ ho']
      cases r <;> rfl
  | some r =>
    cases ho' : IoReg.at? off' with
    | none =>
      simp only [IoFile.set_of_reg _ ho, IoFile.set_of_plain _ ho']
      cases r <;> rfl
    | some r' =>
      have hr : r ≠ r' := by
        rintro rfl
        exact h ((IoReg.offset_of_at? ho).symm.trans (IoReg.offset_of_at? ho'))
      simp only [IoFile.set_of_reg _ ho, IoFile.set_of_reg _ ho']
      refine IoFile.ext_reg (fun q => ?_) (by simp)
      by_cases hq : q = r
      · subst hq
        simp [hr]
      · simp [hq]

/-- The state with `v` in a cell: what a plain store does (R73). -/
def storeCell (s : State) (l : Loc) (v : Byte) : State :=
  match l with
  | .vram i => { s with vram := Store.put s.vram i v }
  | .xram i => { s with cart := { s.cart with xram := Store.put s.cart.xram i v } }
  | .wram i => { s with wram := Store.put s.wram i v }
  | .oam i => { s with oam := Store.put s.oam i v }
  | .hram i => { s with hram := Store.put s.hram i v }
  | .io off => { s with io := s.io.set off v }
  | .ie => { s with ie := v }
  | .bank0 _ | .bankN _ | .unusable => s

theorem busWrite_eq_storeCell {s : State} {a : Word} (v : Byte) (h : plainStore s a = true) :
    busWrite s a v = storeCell s (cellOf s a) v := by
  obtain ⟨i, hc, e⟩ | ⟨i, hc, e⟩ | ⟨i, hc, e⟩ | ⟨i, hc, e⟩ | ⟨i, hc, e⟩ | ⟨hc, e⟩ | ⟨i, hc, e⟩ := busWrite_plain v h
  all_goals
    rw [e, hc]
    rfl

theorem storeCell_storeCell_same (s : State) (l : Loc) (v w : Byte) :
    storeCell (storeCell s l v) l w = storeCell s l w := by
  cases l <;> simp only [storeCell, Store.put_put_same, IoFile.set_set_same]

/-- Stores to cells of two memories touch different fields; to two cells of one memory, two indices of one array. -/
theorem storeCell_storeCell_comm (s : State) {l k : Loc} (v w : Byte) (h : l ≠ k) :
    storeCell (storeCell s l v) k w = storeCell (storeCell s k w) l v := by
  cases l <;> cases k
  case vram.vram i j => simp only [storeCell, Store.put_put_comm _ v w (mt (congrArg Loc.vram) h)]
  case xram.xram i j => simp only [storeCell, Store.put_put_comm _ v w (mt (congrArg Loc.xram) h)]
  case wram.wram i j => simp only [storeCell, Store.put_put_comm _ v w (mt (congrArg Loc.wram) h)]
  case oam.oam i j => simp only [storeCell, Store.put_put_comm _ v w (mt (congrArg Loc.oam) h)]
  case hram.hram i j => simp only [storeCell, Store.put_put_comm _ v w (mt (congrArg Loc.hram) h)]
  case io.io i j => simp only [storeCell, IoFile.set_set_comm _ v w (mt (congrArg Loc.io) h)]
  case ie.ie => exact absurd rfl h
  all_goals rfl

/-- Settles O36: a plain store is a store to the cell behind its address, and moves no cell. -/
theorem plainStoresLastWriteWins : Obligations.PlainStoresLastWriteWins := by
  unfold Obligations.PlainStoresLastWriteWins
  intro s a b v w _ ha hb t
  have hb' : plainStore (busWrite s a v) b = true := (plainStore_busWrite v ha b).trans hb
  have ha' : plainStore (busWrite s b w) a = true := (plainStore_busWrite w hb a).trans ha
  have ht : t = storeCell (storeCell s (cellOf s a) v) (cellOf s b) w := by
    rw [← busWrite_eq_storeCell v ha, ← cellOf_busWrite v ha b, ← busWrite_eq_storeCell w hb']
  split
  next hcell => rw [ht, hcell, storeCell_storeCell_same, ← busWrite_eq_storeCell w hb]
  next hcell =>
    refine ⟨?_, ?_, ?_⟩
    · rw [ht, storeCell_storeCell_comm s v w hcell, ← busWrite_eq_storeCell w hb, ← cellOf_busWrite w hb a,
        ← busWrite_eq_storeCell v ha']
    · rw [busRead_busWrite w hb', cellOf_busWrite v ha, cellOf_busWrite v ha, if_neg hcell, busRead_busWrite v ha,
        if_pos rfl]
    · rw [busRead_busWrite w hb', if_pos rfl]

theorem wramAt_put (s : State) (i j : Nat) (v : Byte) :
    wramAt { s with wram := Store.put s.wram i v } j = if j = i then v else wramAt s j := Memory.byteAt_put ..

/-- Settles O37: both addresses of an echoed byte have the location of that byte of WRAM. -/
theorem echoRamAliasesWram : Obligations.EchoRamAliasesWram := by
  unfold Obligations.EchoRamAliasesWram
  refine ⟨?_, ?_⟩
  · intro s k v hk lo hi
    have hlo : locate lo = .wram k := by
      have hn : lo.toNat = 0xC000 + k := toNat_ofNat_word (by omega)
      rw [locate_of_wram (by omega) (by omega), hn, Nat.add_sub_cancel_left]
    have hhi : locate hi = .wram k := by
      have hn : hi.toNat = 0xE000 + k := toNat_ofNat_word (by omega)
      rw [locate_of_echo (by omega) (by omega), hn, Nat.add_sub_cancel_left]
    have hread : readLoc (writeLoc s (.wram k) v) (.wram k) = v := (wramAt_put s k k v).trans (if_pos rfl)
    unfold busRead busWrite
    rw [hlo, hhi]
    exact ⟨rfl, rfl, hread, hread⟩
  · intro s a i hcell hi
    have hloc : locate a = .wram i := by
      unfold cellOf at hcell
      split at hcell
      · split at hcell <;> cases hcell
      · exact hcell
    have := toNat_of_locate_wram hloc
    omega

/-- Plain stores to other cells leave the byte an address shows as it was. -/
theorem busRead_applyStores {s : State} {addrs : List Word} (vs : List Byte) {b : Word}
    (hplain : ∀ a ∈ addrs, plainStore s a = true) (hcell : ∀ a ∈ addrs, cellOf s b ≠ cellOf s a) :
    busRead (applyStores s addrs vs) b = busRead s b := by
  induction addrs generalizing s vs with
  | nil => rfl
  | cons a as ih =>
    cases vs with
    | nil => rfl
    | cons v vs =>
      simp only [List.forall_mem_cons] at hplain hcell
      obtain ⟨ha, has⟩ := hplain
      obtain ⟨hca, hcas⟩ := hcell
      calc busRead (applyStores (busWrite s a v) as vs) b
        _ = busRead (busWrite s a v) b := ih vs
            (fun x hx => (plainStore_busWrite v ha x).trans (has x hx))
            (fun x hx => by rw [cellOf_busWrite v ha, cellOf_busWrite v ha]; exact hcas x hx)
        _ = busRead s b := by rw [busRead_busWrite v ha, if_neg hca]

/-- Settles O41: an instruction changes memory by its stores alone. -/
theorem memoryFrame : Obligations.MemoryFrame := by
  unfold Obligations.MemoryFrame
  intro i s t h hplain b hcell
  obtain ⟨vs, c, n, -, e, -⟩ := exec_next h
  obtain rfl : t = (applyStores s (storeAddrs i s) vs).withCpu c n := by injection e
  rw [busRead_withCpu, busRead_applyStores vs hplain hcell]

end Sys2Proof.Machine
end

section
/-! PROOFS of family 20_memory.md. The cartridge: bank arithmetic (R116), the windows of each kind of controller and its
control writes (R118 to R125), the writes that are dropped, and the image of a loaded file. -/

namespace Sys2Proof.Machine

/-! ### Bank arithmetic -/

/-- A bank mask is a remainder: the number of ROM banks is a power of two. -/
theorem RomSize.and_banks (z : RomSize) (bank : Nat) : bank &&& (z.banks - 1) = bank % z.banks := by
  cases z
  case kib32 => exact Nat.and_two_pow_sub_one_eq_mod bank 1
  case kib64 => exact Nat.and_two_pow_sub_one_eq_mod bank 2
  case kib128 => exact Nat.and_two_pow_sub_one_eq_mod bank 3
  case kib256 => exact Nat.and_two_pow_sub_one_eq_mod bank 4
  case kib512 => exact Nat.and_two_pow_sub_one_eq_mod bank 5
  case kib1024 => exact Nat.and_two_pow_sub_one_eq_mod bank 6
  case kib2048 => exact Nat.and_two_pow_sub_one_eq_mod bank 7

/-- The same of RAM, where there is any. -/
theorem RamSize.and_banks {z : RamSize} (h : z.bytes ≠ 0) (bank : Nat) : bank &&& (z.banks - 1) = bank % z.banks := by
  cases z
  case none => exact absurd rfl h
  case kib2 => exact Nat.and_two_pow_sub_one_eq_mod bank 0
  case kib8 => exact Nat.and_two_pow_sub_one_eq_mod bank 0
  case kib32 => exact Nat.and_two_pow_sub_one_eq_mod bank 2
  case kib128 => exact Nat.and_two_pow_sub_one_eq_mod bank 4
  case kib64 => exact Nat.and_two_pow_sub_one_eq_mod bank 3

theorem RomSize.two_le_banks (z : RomSize) : 2 ≤ z.banks := by
  cases z <;> decide

theorem romIndex_eq (c : Cart) (bank off : Nat) : romIndex c bank off = bank % c.romSize.banks * 0x4000 + off := by
  rw [romIndex, RomSize.and_banks]

theorem ramIndex_eq {c : Cart} (h : c.ramSize.bytes ≠ 0) (bank off : Nat) :
    ramIndex c bank off = (bank % c.ramSize.banks * 0x2000 + off) % c.ramSize.bytes := by
  rw [ramIndex, RamSize.and_banks h]

/-! ### Windows -/

theorem busRead_low {s : State} {a : Word} (h : a.toNat < 0x4000) :
    busRead s a = romAt s.cart (lowBank s.cart % s.cart.romSize.banks * 0x4000 + a.toNat) := by
  rw [busRead, locate_of_lt_4000 h, ← romIndex_eq]
  rfl

theorem busRead_high {s : State} {a : Word} (hlo : 0x4000 ≤ a.toNat) (hhi : a.toNat < 0x8000) :
    busRead s a = romAt s.cart (highBank s.cart % s.cart.romSize.banks * 0x4000 + (a.toNat - 0x4000)) := by
  rw [busRead, locate_of_lt_8000 hlo hhi, ← romIndex_eq]
  rfl

/-- With bank 0 in the low window and bank 1 in the high one, an address shows the byte of the image at its own index. -/
theorem busRead_rom_flat {s : State} {a : Word} (ha : a.toNat < 0x8000) (hlow : lowBank s.cart = 0)
    (hhigh : highBank s.cart = 1) : busRead s a = romAt s.cart a.toNat := by
  by_cases h : a.toNat < 0x4000
  · rw [busRead_low h, hlow, Nat.zero_mod, Nat.zero_mul, Nat.zero_add]
  · have hone : 1 % s.cart.romSize.banks = 1 := Nat.mod_eq_of_lt s.cart.romSize.two_le_banks
    rw [busRead_high (by omega) ha, hhigh, hone, Nat.one_mul, Nat.add_sub_cancel' (by omega)]

/-- Where the RAM window shows no RAM it reads 0xFF and drops writes (R122, R125). -/
theorem ramWindow_closed {s : State} {a : Word} (v : Byte) (hlo : 0xA000 ≤ a.toNat) (hhi : a.toNat < 0xC000)
    (h : xramIndex s.cart (a.toNat - 0xA000) = none) : busWrite s a v = s ∧ busRead s a = 0xFF := by
  unfold busWrite busRead
  simp only [locate_of_xram hlo hhi, writeLoc, readLoc, cartWriteRam, cartReadRam, h, and_self]

theorem ramBank_noRam {c : Cart} (h : c.ramSize.bytes = 0) : ramBank c = none := if_pos h

theorem ramSize_of_ramBank {c : Cart} {bank : Nat} (h : ramBank c = some bank) : c.ramSize.bytes ≠ 0 := by
  intro h0
  rw [ramBank_noRam h0] at h
  cases h

/-- Where it shows a bank, the cell is a byte of that bank, modulo the RAM there is (R116). -/
theorem cellOf_ramWindow {s : State} {a : Word} {bank : Nat} (hlo : 0xA000 ≤ a.toNat) (hhi : a.toNat < 0xC000)
    (hbank : ramBank s.cart = some bank) :
    cellOf s a = .xram ((bank % s.cart.ramSize.banks * 0x2000 + (a.toNat - 0xA000)) % s.cart.ramSize.bytes) := by
  unfold cellOf
  simp only [locate_of_xram hlo hhi, xramIndex, hbank, Option.map_some, ramIndex_eq (ramSize_of_ramBank hbank)]

theorem xramIndex_eq_none {c : Cart} (h : ramBank c = none) (off : Nat) : xramIndex c off = none := by
  rw [xramIndex, h, Option.map_none]

theorem busRead_lowWindow {s : State} {off : Nat} (h : off < 0x4000) :
    busRead s (BitVec.ofNat 16 off) = romAt s.cart (lowBank s.cart % s.cart.romSize.banks * 0x4000 + off) := by
  have ha : (BitVec.ofNat 16 off).toNat = off := toNat_ofNat_word (by omega)
  rw [busRead_low (by omega), ha]

theorem busRead_highWindow {s : State} {off : Nat} (h : off < 0x4000) :
    busRead s (BitVec.ofNat 16 (0x4000 + off)) =
      romAt s.cart (highBank s.cart % s.cart.romSize.banks * 0x4000 + off) := by
  have ha : (BitVec.ofNat 16 (0x4000 + off)).toNat = 0x4000 + off := toNat_ofNat_word (by omega)
  rw [busRead_high (by omega) (by omega), ha, Nat.add_sub_cancel_left]

/-- What the RAM window shows, where the controller gives it the bank `bank` under the condition `p`. -/
theorem ramWindow {s : State} {off bank : Nat} {p : Prop} [Decidable p]
    (hbank : ramBank s.cart = if p then some bank else none) (v : Byte) (hoff : off < 0x2000) :
    let a := BitVec.ofNat 16 (0xA000 + off)
    if p then cellOf s a = .xram ((bank % s.cart.ramSize.banks * 0x2000 + off) % s.cart.ramSize.bytes)
    else busRead s a = 0xFF ∧ busWrite s a v = s := by
  intro a
  have ha : a.toNat = 0xA000 + off := toNat_ofNat_word (by omega)
  split
  next hp =>
    rw [if_pos hp] at hbank
    rw [cellOf_ramWindow (by omega) (by omega) hbank, ha, Nat.add_sub_cancel_left]
  next hp =>
    rw [if_neg hp] at hbank
    exact (ramWindow_closed v (by omega) (by omega) (xramIndex_eq_none hbank _)).symm

/-- A write below 0x8000 is a control write at its own address (R73). -/
theorem busWrite_control {s : State} {a : Word} (v : Byte) (h : a.toNat < 0x8000) :
    busWrite s a v = { s with cart := cartWriteControl s.cart a.toNat v } := by
  unfold busWrite
  by_cases hlo : a.toNat < 0x4000
  · rw [locate_of_lt_4000 hlo]
    rfl
  · rw [locate_of_lt_8000 (by omega) h, writeLoc, Nat.add_sub_cancel' (by omega)]

theorem busWrite_io {s : State} {a : Word} {off : Nat} (v : Byte) (ha : a.toNat = 0xFF00 + off) (hoff : off < 0x80) :
    busWrite s a v = ioWrite s off v := by
  rw [busWrite, locate_of_io (by omega) (by omega), ha, Nat.add_sub_cancel_left]
  rfl

theorem busWrite_ly (s : State) (v : Byte) : busWrite s 0xFF44 v = s := busWrite_io (off := 0x44) v rfl (by decide)

/-! ### No controller -/

theorem ramBank_noMbc {c : Cart} (hmbc : c.mbc = .noMbc) (hram : c.ramSize.bytes ≠ 0) : ramBank c = some 0 := by
  rw [ramBank, if_neg hram, hmbc]

/-- Settles O38: each clause is the rule of its range. -/
theorem droppedWrites : Obligations.DroppedWrites := by
  unfold Obligations.DroppedWrites
  intro s a v
  refine ⟨?unusable, ?ly, fun hlo hhi => ramWindow_closed v hlo hhi, ?rom, ?ram⟩
  case unusable =>
    intro hlo hhi
    unfold busWrite busRead
    rw [locate_of_unusable hlo hhi]
    exact ⟨rfl, rfl⟩
  case ly =>
    rintro rfl
    exact busWrite_ly s v
  case rom =>
    intro ha hmbc
    refine ⟨?_, busRead_rom_flat ha (by rw [lowBank, hmbc]) (by rw [highBank, hmbc])⟩
    rw [busWrite_control v ha, cartWriteControl, hmbc]
  case ram =>
    intro hlo hhi hmbc
    split
    next hram => rw [cellOf_ramWindow hlo hhi (ramBank_noMbc hmbc hram), Nat.zero_mod, Nat.zero_mul, Nat.zero_add]
    next hram => exact ramWindow_closed v hlo hhi (xramIndex_eq_none (ramBank_noRam (not_not.1 hram)) _)

/-! ### MBC1 -/

/-- The low `w` bits of a byte as a number. -/
theorem toNat_setWidth_byte (v : Byte) (w : Nat) : (v.setWidth w).toNat = v.toNat % 2 ^ w := BitVec.toNat_setWidth ..

/-- A bank register of `w` bits takes a 0 as 1 (R119, R123). -/
theorem toNat_bankRegister {w : Nat} (v : Byte) (hw : 0 < w) :
    (if v.setWidth w = 0#w then 1#w else v.setWidth w).toNat =
      if v.toNat % 2 ^ w = 0 then 1 else v.toNat % 2 ^ w := by
  have hzero : v.setWidth w = 0#w ↔ v.toNat % 2 ^ w = 0 := by
    rw [← BitVec.toNat_inj, toNat_setWidth_byte, BitVec.toNat_ofNat, Nat.zero_mod]
  simp only [hzero, apply_ite BitVec.toNat, toNat_setWidth_byte, BitVec.toNat_ofNat,
    Nat.mod_eq_of_lt (Nat.one_lt_two_pow hw.ne')]

theorem getLsbD_zero_eq (v : Byte) : v.getLsbD 0 = decide (v.toNat % 2 = 1) := by
  rw [BitVec.getLsbD, Nat.testBit_zero]

theorem mbc1Write_ramEnable (r : Mbc1) (a : Nat) (v : Byte) :
    (mbc1Write r a v).ramEnable = if a < 0x2000 then decide (v.toNat % 16 = 0xA) else r.ramEnable := by
  unfold mbc1Write
  repeat' split
  all_goals rfl

theorem mbc1Write_romLow (r : Mbc1) (a : Nat) (v : Byte) :
    (mbc1Write r a v).romLow.toNat =
      if 0x2000 ≤ a ∧ a < 0x4000 then (if v.toNat % 32 = 0 then 1 else v.toNat % 32) else r.romLow.toNat := by
  have hv := toNat_bankRegister (w := 5) v (by decide)
  unfold mbc1Write
  grind

theorem mbc1Write_high (r : Mbc1) (a : Nat) (v : Byte) :
    (mbc1Write r a v).high.toNat = if 0x4000 ≤ a ∧ a < 0x6000 then v.toNat % 4 else r.high.toNat := by
  have hv := toNat_setWidth_byte v 2
  unfold mbc1Write
  grind

theorem mbc1Write_mode (r : Mbc1) (a : Nat) (v : Byte) :
    (mbc1Write r a v).mode = if 0x6000 ≤ a then decide (v.toNat % 2 = 1) else r.mode := by
  rw [← getLsbD_zero_eq]
  unfold mbc1Write
  grind

theorem busWrite_mbc1 {s : State} {r : Mbc1} (hmbc : s.cart.mbc = .mbc1 r) {a : Word} (v : Byte) (ha : a.toNat < 0x8000) :
    busWrite s a v = { s with cart := { s.cart with mbc := .mbc1 (mbc1Write r a.toNat v) } } := by
  rw [busWrite_control v ha, cartWriteControl, hmbc]

theorem lowBank_mbc1 {c : Cart} {r : Mbc1} (h : c.mbc = .mbc1 r) :
    lowBank c = if r.mode then r.high.toNat * 32 else 0 := by
  rw [lowBank, h]
  simp only [Nat.shiftLeft_eq]

/-- The two fields of the ROM bank number do not overlap (R121). -/
theorem highBank_mbc1 {c : Cart} {r : Mbc1} (h : c.mbc = .mbc1 r) :
    highBank c = r.high.toNat * 32 + r.romLow.toNat := by
  rw [highBank, h]
  exact (Nat.shiftLeft_add_eq_or_of_lt r.romLow.isLt r.high.toNat).symm.trans (by rw [Nat.shiftLeft_eq])

theorem ramBank_mbc1 {c : Cart} {r : Mbc1} (h : c.mbc = .mbc1 r) :
    ramBank c = if r.ramEnable = true ∧ c.ramSize.bytes ≠ 0 then some (if r.mode then r.high.toNat else 0) else none := by
  rw [ramBank, h]
  grind

/-- Settles O42: a control write is `mbc1Write`, field by field; a window shows the bank the registers select. -/
theorem mbc1Banking : Obligations.Mbc1Banking := by
  unfold Obligations.Mbc1Banking
  intro s r hmbc
  refine ⟨fun a v ha => ?control, fun off hoff => ?rom, fun off v hoff => ?ram⟩
  case control =>
    exact ⟨mbc1Write r a.toNat v, busWrite_mbc1 hmbc v ha, mbc1Write_ramEnable r _ v, mbc1Write_romLow r _ v,
      mbc1Write_high r _ v, mbc1Write_mode r _ v⟩
  case rom =>
    rw [← lowBank_mbc1 hmbc, ← highBank_mbc1 hmbc]
    exact ⟨busRead_lowWindow hoff, busRead_highWindow hoff⟩
  case ram =>
    exact ramWindow (ramBank_mbc1 hmbc) v hoff

/-! ### MBC3 -/

theorem mbc3Write_ramEnable (r : Mbc3) (a : Nat) (v : Byte) :
    (mbc3Write r a v).ramEnable = if a < 0x2000 then decide (v.toNat % 16 = 0xA) else r.ramEnable := by
  unfold mbc3Write
  repeat' split
  all_goals rfl

theorem mbc3Write_romBank (r : Mbc3) (a : Nat) (v : Byte) :
    (mbc3Write r a v).romBank.toNat =
      if 0x2000 ≤ a ∧ a < 0x4000 then (if v.toNat % 128 = 0 then 1 else v.toNat % 128) else r.romBank.toNat := by
  have hv := toNat_bankRegister (w := 7) v (by decide)
  unfold mbc3Write
  grind

theorem mbc3Write_ramSel (r : Mbc3) (a : Nat) (v : Byte) :
    (mbc3Write r a v).ramSel.toNat = if 0x4000 ≤ a ∧ a < 0x6000 then v.toNat % 16 else r.ramSel.toNat := by
  have hv := toNat_setWidth_byte v 4
  unfold mbc3Write
  grind

theorem busWrite_mbc3 {s : State} {r : Mbc3} (hmbc : s.cart.mbc = .mbc3 r) {a : Word} (v : Byte) (ha : a.toNat < 0x8000) :
    busWrite s a v = { s with cart := { s.cart with mbc := .mbc3 (mbc3Write r a.toNat v) } } := by
  rw [busWrite_control v ha, cartWriteControl, hmbc]

theorem ramBank_mbc3 {c : Cart} {r : Mbc3} (h : c.mbc = .mbc3 r) :
    ramBank c = if r.ramEnable = true ∧ c.ramSize.bytes ≠ 0 ∧ r.ramSel.toNat < 4 then some r.ramSel.toNat else none := by
  rw [ramBank, h]
  grind

/-- Settles O43: as for the MBC1, with `mbc3Write`. -/
theorem mbc3Banking : Obligations.Mbc3Banking := by
  unfold Obligations.Mbc3Banking
  intro s r hmbc
  refine ⟨fun a v ha => ?control, fun off hoff => ?rom, fun off v hoff => ?ram⟩
  case control =>
    exact ⟨mbc3Write r a.toNat v, busWrite_mbc3 hmbc v ha, mbc3Write_ramEnable r _ v, mbc3Write_romBank r _ v,
      mbc3Write_ramSel r _ v⟩
  case rom =>
    have hlow : lowBank s.cart = 0 := by rw [lowBank, hmbc]
    have hhigh : highBank s.cart = r.romBank.toNat := by rw [highBank, hmbc]
    refine ⟨?_, hhigh ▸ busRead_highWindow hoff⟩
    rw [busRead_lowWindow hoff, hlow, Nat.zero_mod, Nat.zero_mul, Nat.zero_add]
  case ram =>
    exact ramWindow (ramBank_mbc3 hmbc) v hoff

end Sys2Proof.Machine
end

section
/-! PROOFS of family 20_memory.md. Loading a file: the header codes, the cartridge a file gives, and what the bus then reads
(R110 to R114, R451). -/

namespace Sys2Proof.Machine

/-! ### Header codes -/

/-- The codes a load accepts are the seven of R111. -/
theorem isSome_ofCode_mbc (code : Byte) :
    (Mbc.ofCode code).isSome ↔ code ∈ [0x00#8, 0x01#8, 0x02#8, 0x03#8, 0x11#8, 0x12#8, 0x13#8] := by
  unfold Mbc.ofCode
  grind

theorem ofCode_romSize_of_le {code : Byte} (h : code.toNat ≤ 6) :
    ∃ z, RomSize.ofCode code = some z ∧ z.banks = 2 ^ (code.toNat + 1) := by
  unfold RomSize.ofCode
  generalize code.toNat = n at h
  interval_cases n <;> exact ⟨_, rfl, rfl⟩

theorem ofCode_romSize_of_gt {code : Byte} (h : 6 < code.toNat) : RomSize.ofCode code = none :=
  List.getElem?_eq_none h

theorem ofCode_ramSize_of_le {code : Byte} (h : code.toNat ≤ 5) :
    ∃ z, RamSize.ofCode code = some z ∧ z.bytes = [0, 2048, 8192, 32768, 131072, 65536].getD code.toNat 0 := by
  unfold RamSize.ofCode
  generalize code.toNat = n at h
  interval_cases n <;> exact ⟨_, rfl, rfl⟩

theorem ofCode_ramSize_of_gt {code : Byte} (h : 5 < code.toNat) : RamSize.ofCode code = none :=
  List.getElem?_eq_none h

/-! ### The cartridge of a file -/

theorem parseCart_short {file : List Byte} (h : file.length < 0x150) : parseCart file = .error .romTooShort := if_pos h

theorem parseCart_badMbc {file : List Byte} (hlen : 0x150 ≤ file.length) (h : Mbc.ofCode (file.getD 0x147 0) = none) :
    parseCart file = .error (.unsupportedMbc (file.getD 0x147 0)) := by
  unfold parseCart
  rw [if_neg (by omega), h]

theorem parseCart_header {file : List Byte} {mbc : Mbc} {romSize : RomSize} {ramSize : RamSize}
    (hlen : 0x150 ≤ file.length) (hmbc : Mbc.ofCode (file.getD 0x147 0) = some mbc)
    (hrom : RomSize.ofCode (file.getD 0x148 0) = some romSize) (hram : RamSize.ofCode (file.getD 0x149 0) = some ramSize) :
    parseCart file =
      if file.length < romSize.banks * 0x4000 then .error .romTooShort
      else .ok ⟨headerTitle file, romSize, ramSize, storeOf 0 (file.take (romSize.banks * 0x4000)), mbc, []⟩ := by
  unfold parseCart
  rw [if_neg (by omega), hmbc, hrom, hram]

/-- A file that gives a cartridge has good header codes and the length it declares. -/
theorem parseCart_ok {file : List Byte} {c : Cart} (h : parseCart file = .ok c) :
    0x150 ≤ file.length ∧ RomSize.ofCode (file.getD 0x148 0) = some c.romSize ∧
    RamSize.ofCode (file.getD 0x149 0) = some c.ramSize ∧ c.romSize.banks * 0x4000 ≤ file.length ∧
    c.rom = storeOf 0 (file.take (c.romSize.banks * 0x4000)) := by
  unfold parseCart at h
  split at h
  next => cases h
  next hlen =>
    split at h
    next => cases h
    next => cases h
    next => cases h
    next mbc romSize ramSize hmbc hrom hram =>
      split at h
      next => cases h
      next hdecl =>
        cases h
        exact ⟨not_lt.1 hlen, hrom, hram, not_lt.1 hdecl, rfl⟩

theorem loadMachine_ok {file : List Byte} {epoch : Nat} {s : State} (h : loadMachine file epoch = .ok s) :
    ∃ c, parseCart file = .ok c ∧ s = State.powerOn c epoch := by
  unfold loadMachine at h
  split at h
  next c hc => exact ⟨c, hc, by injection h with h; exact h.symm⟩
  next => cases h

theorem loadMachine_of_parseCart {file : List Byte} {c : Cart} (epoch : Nat) (h : parseCart file = .ok c) :
    loadMachine file epoch = .ok (State.powerOn c epoch) := by
  rw [loadMachine, h]

theorem loadMachine_error {file : List Byte} {e : LoadError} (epoch : Nat) (h : parseCart file = .error e) :
    loadMachine file epoch = .error e := by
  rw [loadMachine, h]

/-! ### The image -/

theorem get?_storeOf (l : List Byte) (i j : Nat) : Store.get? (storeOf i l) (i + j) = l[j]? := by
  induction l generalizing i j with
  | nil => rfl
  | cons b l ih =>
    cases j with
    | zero => exact if_pos rfl
    | succ j =>
      rw [storeOf, Store.get?, if_neg (by omega), List.getElem?_cons_succ, ← ih (i + 1) j]
      congr 1
      omega

/-- A byte of an image that is a prefix of a file is the file's own. -/
theorem romAt_of_file {c : Cart} {file : List Byte} {n i : Nat} (hrom : c.rom = storeOf 0 (file.take n)) (hi : i < n)
    (hn : n ≤ file.length) : romAt c i = file.getD i 0 := by
  have hget : Store.get? c.rom i = file[i]? := by
    rw [hrom, ← List.getElem?_take_of_lt hi, ← get?_storeOf, Nat.zero_add]
  rw [romAt, Memory.byteAt, hget, List.getD_eq_getElem?_getD, List.getElem?_eq_getElem (by omega)]
  rfl

/-- At its reset values every controller has bank 0 in the low window and bank 1 in the high one (R118, R120, R121,
R124). -/
theorem lowBank_reset {c : Cart} {m : Mbc} (h : c.mbc = m.reset) : lowBank c = 0 := by
  rw [lowBank, h]
  cases m <;> rfl

theorem highBank_reset {c : Cart} {m : Mbc} (h : c.mbc = m.reset) : highBank c = 1 := by
  rw [highBank, h]
  cases m <;> rfl

theorem busRead_powerOn (c : Cart) (epoch : Nat) {a : Word} (ha : a.toNat < 0x8000) :
    busRead (State.powerOn c epoch) a = romAt c a.toNat :=
  busRead_rom_flat ha (lowBank_reset (m := c.mbc) rfl) (highBank_reset (m := c.mbc) rfl)

/-- Settles O59: the cartridge a file gives decides each clause. -/
theorem loadedImageIsRead : Obligations.LoadedImageIsRead := by
  unfold Obligations.LoadedImageIsRead
  refine ⟨?loaded, ?short, ?badMbc, ?badSize, ?good⟩
  case loaded =>
    intro file epoch s h
    obtain ⟨c, hc, rfl⟩ := loadMachine_ok h
    obtain ⟨-, -, -, hdecl, hrom⟩ := parseCart_ok hc
    have hbanks := c.romSize.two_le_banks
    exact ⟨fun a ha => (busRead_powerOn c epoch ha).trans (romAt_of_file hrom (by omega) hdecl), hdecl, rfl⟩
  case short => exact fun file epoch h => loadMachine_error epoch (parseCart_short h)
  case badMbc =>
    intro file epoch hlen hcode
    refine loadMachine_error epoch (parseCart_badMbc hlen (Option.not_isSome_iff_eq_none.1 ?_))
    rwa [isSome_ofCode_mbc]
  case badSize =>
    intro file epoch hcode s h
    obtain ⟨c, hc, -⟩ := loadMachine_ok h
    obtain ⟨-, hrom, hram, -, -⟩ := parseCart_ok hc
    rcases hcode with hcode | hcode
    · rw [ofCode_romSize_of_gt hcode] at hrom
      cases hrom
    · rw [ofCode_ramSize_of_gt hcode] at hram
      cases hram
  case good =>
    intro file epoch hlen hcode hromCode hramCode
    obtain ⟨mbc, hmbc⟩ := Option.isSome_iff_exists.1 ((isSome_ofCode_mbc _).2 hcode)
    obtain ⟨romSize, hrom, hbanks⟩ := ofCode_romSize_of_le hromCode
    obtain ⟨ramSize, hram, hbytes⟩ := ofCode_ramSize_of_le hramCode
    have hparse := parseCart_header hlen hmbc hrom hram
    rw [← hbanks]
    split
    next hshort => exact loadMachine_error epoch (hparse.trans (if_pos hshort))
    next hlong => exact ⟨_, loadMachine_of_parseCart epoch (hparse.trans (if_neg hlong)), rfl, hbytes⟩

end Sys2Proof.Machine
end

section
/-! PROOFS of family 20_memory.md. The write hooks of the I/O registers: DIV, STAT, LCDC and the OAM DMA (R87 to R95), and the
plain bytes (R94). -/

namespace Sys2Proof.Machine

theorem ioWrite_plain {off : Nat} (s : State) (v : Byte) (h : off ∉ [0x00, 0x04, 0x40, 0x41, 0x44, 0x46]) :
    ioWrite s off v = { s with io := s.io.set off v } := by
  obtain ⟨rfl, -⟩ | ⟨rfl, -⟩ | ⟨rfl, -⟩ | ⟨rfl, -⟩ | ⟨rfl, -⟩ | ⟨rfl, -⟩ | ⟨-, e⟩ := ioWrite_cases s off v
  case inr.inr.inr.inr.inr.inr => exact e
  all_goals exact absurd (by decide) h

/-- A byte put together by a mask (R91). -/
theorem getLsbD_statMask (old v : Byte) {i : Nat} (hi : i < 8) :
    ((old &&& 0x87) ||| (v &&& 0x78)).getLsbD i = if 3 ≤ i ∧ i ≤ 6 then v.getLsbD i else old.getLsbD i := by
  interval_cases i <;> simp

/-- Settles O39: the hook of DIV, the mask of STAT, and the plain bytes. -/
theorem ioWriteHooks : Obligations.IoWriteHooks := by
  unfold Obligations.IoWriteHooks
  intro s v
  refine ⟨busWrite_io (off := 0x04) v rfl (by decide), ⟨_, fun i hi => getLsbD_statMask s.io.stat v hi,
    busWrite_io (off := 0x41) v rfl (by decide)⟩, fun off hoff hhook => ⟨s.io.set off v, ?_, fun q => s.io.get_set off q v⟩⟩
  rw [busWrite_io v (toNat_ofNat_word (by omega)) hoff, ioWrite_plain s v hhook]

/-! ### OAM DMA (R95) -/

theorem oamAt_dmaByte (v : Byte) (s : State) (i j : Nat) :
    oamAt (dmaByte v s i) j = if j = i then busRead s (BitVec.ofNat 16 (v.toNat * 256 + i)) else oamAt s j :=
  Memory.byteAt_put ..

/-- After `n` bytes of the copy, those below `n` are the source's bytes as they were before it: the one byte of OAM that a
source address can show is the one copied there, and it is not yet written. -/
theorem dmaFold_oamAt (v : Byte) (s : State) {n : Nat} (hn : n ≤ 160) (j : Nat) :
    oamAt ((List.range n).foldl (dmaByte v) s) j =
      if j < n then busRead s (BitVec.ofNat 16 (v.toNat * 256 + j)) else oamAt s j := by
  induction n generalizing j with
  | zero => rfl
  | succ n ih =>
    have hsource : busRead ((List.range n).foldl (dmaByte v) s) (BitVec.ofNat 16 (v.toNat * 256 + n)) =
        busRead s (BitVec.ofNat 16 (v.toNat * 256 + n)) := by
      have haddr : (BitVec.ofNat 16 (v.toNat * 256 + n)).toNat = v.toNat * 256 + n := toNat_ofNat_word (by omega)
      unfold busRead
      cases hl : locate (BitVec.ofNat 16 (v.toNat * 256 + n)) with
      | oam i =>
        obtain ⟨hi, ha⟩ := toNat_of_locate_oam hl
        exact (ih (by omega) i).trans (if_neg (by omega))
      | _ =>
        obtain ⟨m, e, -⟩ := dmaFold_frame v (List.range n) s
        rw [e]
        rfl
    rw [List.range_succ, List.foldl_append, List.foldl_cons, List.foldl_nil, oamAt_dmaByte, hsource, ih (by omega)]
    grind

theorem busWrite_dma (s : State) (v : Byte) : busWrite s 0xFF46 v = dmaCopy v (s.setIo .dma v) :=
  busWrite_io (off := 0x46) v rfl (by decide)

/-- Settles O40: the copy changes OAM alone, and each byte of it is the source's. -/
theorem dmaCopiesPageToOam : Obligations.DmaCopiesPageToOam := by
  unfold Obligations.DmaCopiesPageToOam
  intro s v t
  have ht : t = dmaCopy v (s.setIo .dma v) := busWrite_dma s v
  constructor
  · obtain ⟨m, e, -⟩ := dmaCopy_frame v (s.setIo .dma v)
    rw [ht, e]
    rfl
  · intro i hi
    rw [ht, dmaCopy, dmaFold_oamAt v _ le_rfl, if_pos hi]
    rfl

/-! ### LCDC (R90, R372) -/

theorem busWrite_lcdc (s : State) (v : Byte) :
    busWrite s 0xFF40 v = if v.getLsbD 7 then s.setIo .lcdc v else lcdOffReset (s.setIo .lcdc v) :=
  busWrite_io (off := 0x40) v rfl (by decide)

theorem lcdOffReset_of_atFrameStart {s : State} (h : AtFrameStart s.ppu) : lcdOffReset s = s := if_pos h

theorem lcdOffReset_of_not_atFrameStart {s : State} (h : ¬ AtFrameStart s.ppu) :
    lcdOffReset s = { s with
      io := { s.io with ly := 0, stat := (s.io.stat &&& 0xFC) ||| 2 }
      ppu := { s.ppu with line := 0, mode := .oamScan, acc := 0 } } := if_neg h

/-- With the LCD off, and the PPU at the start of its frame, `PpuStep` does nothing. -/
theorem ppuStep_lcdOff {s : State} (hoff : ¬ s.io.lcdc.getLsbD 7 = true) (h : AtFrameStart s.ppu) (c : Nat) :
    ppuStep c s = s := by
  rw [ppuStep, if_neg hoff, lcdOffReset_of_atFrameStart h]

theorem lcdOffReset_lcdc (s : State) : (lcdOffReset s).io.lcdc = s.io.lcdc := by
  rw [lcdOffReset_frame s]

theorem getLsbD_mode2 (old : Byte) {i : Nat} (hi : i < 8) :
    ((old &&& 0xFC) ||| 2).getLsbD i = if i = 1 then true else if i = 0 then false else old.getLsbD i := by
  interval_cases i <;> simp

/-- Settles O51: LCD off puts the PPU at the start of its frame, where it stays. -/
theorem lcdOffResetsPosition : Obligations.LcdOffResetsPosition := by
  unfold Obligations.LcdOffResetsPosition
  intro s v t
  have ht : t = if v.getLsbD 7 then s.setIo .lcdc v else lcdOffReset (s.setIo .lcdc v) := busWrite_lcdc s v
  split
  next hv => exact ht.trans (if_pos hv)
  next hv =>
    rw [if_neg hv] at ht
    rw [ht]
    refine ⟨ppuStep_lcdOff (by rwa [lcdOffReset_lcdc]) (lcdOffReset_atFrameStart _), ?_⟩
    split
    next hstart => exact lcdOffReset_of_atFrameStart hstart
    next hstart =>
      exact ⟨_, fun i hi => getLsbD_mode2 s.io.stat hi, lcdOffReset_of_not_atFrameStart (s := s.setIo .lcdc v) hstart⟩

end Sys2Proof.Machine
end

section
/-! PROOFS of family 20_memory.md. The joypad: P1 bit by bit, the request on a falling bit, the buttons (R86, R361, R362,
R392). -/

namespace Sys2Proof.Machine

/-- P1 with select bits `s5` and `s4` shows the matrix of the keys `k` (R361). -/
def P1Shows (p : Byte) (k : Buttons) (s5 s4 : Bool) : Prop :=
  p.getLsbD 7 = true ∧ p.getLsbD 6 = true ∧ p.getLsbD 5 = s5 ∧ p.getLsbD 4 = s4 ∧
  p.getLsbD 3 = !((!s5 && k.start) || (!s4 && k.down)) ∧ p.getLsbD 2 = !((!s5 && k.select) || (!s4 && k.up)) ∧
  p.getLsbD 1 = !((!s5 && k.b) || (!s4 && k.left)) ∧ p.getLsbD 0 = !((!s5 && k.a) || (!s4 && k.right))

theorem nibble_bits (b3 b2 b1 b0 : Bool) :
    let m : BitVec 4 := BitVec.ofBool b3 ++ BitVec.ofBool b2 ++ BitVec.ofBool b1 ++ BitVec.ofBool b0
    m[3] = b3 ∧ m[2] = b2 ∧ m[1] = b1 ∧ m[0] = b0 := by
  revert b3 b2 b1 b0
  decide

theorem matrix_bits (k : Buttons) (p : Byte) :
    (matrix k p)[3] = matrixBit (!p.getLsbD 5) (!p.getLsbD 4) k.start k.down ∧
    (matrix k p)[2] = matrixBit (!p.getLsbD 5) (!p.getLsbD 4) k.select k.up ∧
    (matrix k p)[1] = matrixBit (!p.getLsbD 5) (!p.getLsbD 4) k.b k.left ∧
    (matrix k p)[0] = matrixBit (!p.getLsbD 5) (!p.getLsbD 4) k.a k.right := nibble_bits ..

theorem p1Shows_p1Value (k : Buttons) (p : Byte) : P1Shows (p1Value k p) k (p.getLsbD 5) (p.getLsbD 4) := by
  obtain ⟨h3, h2, h1, h0⟩ := matrix_bits k p
  simp [P1Shows, p1Value, h3, h2, h1, h0, matrixBit]

/-- The eight bits of P1 are those of `P1Shows`, so there is one such byte. -/
theorem P1Shows.unique {p q : Byte} {k : Buttons} {s5 s4 : Bool} (hp : P1Shows p k s5 s4) (hq : P1Shows q k s5 s4) :
    p = q := by
  obtain ⟨h7, h6, h5, h4, h3, h2, h1, h0⟩ := hp
  obtain ⟨g7, g6, g5, g4, g3, g2, g1, g0⟩ := hq
  refine BitVec.eq_of_getLsbD_eq fun i hi => ?_
  interval_cases i
  exacts [h0.trans g0.symm, h1.trans g1.symm, h2.trans g2.symm, h3.trans g3.symm, h4.trans g4.symm, h5.trans g5.symm,
    h6.trans g6.symm, h7.trans g7.symm]

/-- Some matrix bit fell from 1 to 0 (R362). -/
def matrixFell (old new : Byte) : Bool := (List.range 4).any (fun j => old.getLsbD j && !new.getLsbD j)

theorem lowNibble_eq_zero_iff (v : Byte) : v &&& 0x0F = 0#8 ↔ (List.range 4).any (fun j => v.getLsbD j) = false := by
  revert v
  decide +kernel

theorem noBitFell_iff (old new : Byte) : old &&& 0x0F &&& ~~~new &&& 0x0F = 0#8 ↔ matrixFell old new = false := by
  rw [lowNibble_eq_zero_iff, matrixFell]
  simp [List.range_succ]

/-- The matrix bits alone decide whether one fell. -/
theorem matrixFell_congr {old old' : Byte} (h : ∀ j, j < 4 → old.getLsbD j = old'.getLsbD j) (new : Byte) :
    matrixFell old new = matrixFell old' new := by
  rw [Bool.eq_iff_iff]
  simp only [matrixFell, List.any_eq_true, List.mem_range]
  exact exists_congr fun j => and_congr_right fun hj => by rw [h j hj]

theorem matrixFell_self (p : Byte) : matrixFell p p = false := by
  simp [matrixFell]

/-- The joypad update written out (R362). -/
theorem joypadUpdate_eq (s : State) :
    joypadUpdate s = { s with
      io := { s.io with
        p1 := p1Value s.joypad.btn s.io.p1
        ifr := if matrixFell s.io.p1 (p1Value s.joypad.btn s.io.p1) then s.io.ifr ||| Irq.mask .joypad else s.io.ifr }
      joypad := ⟨s.joypad.btn, s.joypad.btn⟩ } := by
  unfold joypadUpdate
  simp only [noBitFell_iff]
  cases matrixFell s.io.p1 (p1Value s.joypad.btn s.io.p1) <;> rfl

theorem getLsbD_joypadRequest (f : Byte) (fell : Bool) {i : Nat} (hi : i < 8) :
    (if fell then f ||| Irq.mask .joypad else f).getLsbD i = (f.getLsbD i || (i == 4 && fell)) := by
  cases fell
  · simp
  · have hmask : (Irq.mask .joypad).getLsbD i = (i == 4) := by
      interval_cases i <;> rfl
    rw [if_pos rfl, BitVec.getLsbD_or, hmask, Bool.and_true]

/-- The P1 write leaves the matrix bits for the update to compare with. -/
theorem writeP1_eq (s : State) (v : Byte) :
    writeP1 s v = { s with
      io := { s.io with
        p1 := p1Value s.joypad.btn v
        ifr := if matrixFell s.io.p1 (p1Value s.joypad.btn v) then s.io.ifr ||| Irq.mask .joypad else s.io.ifr }
      joypad := ⟨s.joypad.btn, s.joypad.btn⟩ } := by
  have hvalue : p1Value s.joypad.btn (0xC0 ||| (v &&& 0x30) ||| (s.io.p1 &&& 0x0F)) = p1Value s.joypad.btn v := by
    refine p1Value_congr _ ?_
    rw [BitVec.and_or_distrib_right, BitVec.and_or_distrib_right, BitVec.and_assoc, BitVec.and_assoc]
    simp
  have hfell : matrixFell (0xC0 ||| (v &&& 0x30) ||| (s.io.p1 &&& 0x0F)) = matrixFell s.io.p1 := by
    refine funext (matrixFell_congr fun j hj => ?_)
    interval_cases j <;> simp
  rw [writeP1, joypadUpdate_eq]
  simp only [State.setIo_io, State.setIo_joypad, IoFile.setReg, hvalue, hfell]
  rfl

theorem busWrite_p1 (s : State) (v : Byte) : busWrite s 0xFF00 v = writeP1 s v :=
  busWrite_io (off := 0x00) v rfl (by decide)

/-! ### Buttons -/

theorem Buttons.get_set (k : Buttons) (key other : Button) (pressed : Bool) :
    (k.set key pressed).get other = if other = key then pressed else k.get other := by
  cases key <;> cases other <;> rfl

theorem Buttons.set_get (k : Buttons) (key : Button) : k.set key (k.get key) = k := by
  cases key <;> rfl

/-- Setting a button to what it is, P1 showing the matrix already: the update finds nothing to do (R392). -/
theorem setButton_get_io {s : State} (key : Button)
    (h : P1Shows s.io.p1 s.joypad.btn (s.io.p1.getLsbD 5) (s.io.p1.getLsbD 4)) :
    (setButton key (s.joypad.btn.get key) s).io = s.io := by
  have hp1 : p1Value s.joypad.btn s.io.p1 = s.io.p1 := (p1Shows_p1Value ..).unique h
  rw [setButton, Buttons.set_get, joypadUpdate_eq]
  simp only [hp1, matrixFell_self, Bool.false_eq_true, if_false]

/-- Settles O47: both operations are the joypad update, which `joypadUpdate_eq` and `writeP1_eq` write out. -/
theorem joypadUpdateAndInterrupt : Obligations.JoypadUpdateAndInterrupt := by
  unfold Obligations.JoypadUpdateAndInterrupt
  intro p1Is updated
  refine ⟨?setButton, ?write, fun s key h => setButton_get_io key h, ?buttons, fun k => rfl⟩
  case setButton =>
    intro s key pressed k
    rw [setButton, joypadUpdate_eq]
    exact ⟨p1Shows_p1Value k s.io.p1, fun i hi => getLsbD_joypadRequest _ _ hi, rfl⟩
  case write =>
    intro s v
    rw [busWrite_p1, writeP1_eq]
    exact ⟨p1Shows_p1Value s.joypad.btn v, fun i hi => getLsbD_joypadRequest _ _ hi, rfl⟩
  case buttons =>
    intro k key pressed
    exact ⟨(k.get_set key key pressed).trans (if_pos rfl), fun other h => (k.get_set key other pressed).trans (if_neg h)⟩

end Sys2Proof.Machine
end

section
/-! PROOFS of family 20_memory.md. What a CPU step and a machine step can do, said once: bytes stored through the bus, a new
CPU and cycle count, perhaps a request acknowledged in IF; then the devices (R320, R321). -/

namespace Sys2Proof.Machine

theorem applyStores_withCpu (s : State) (c : Cpu) (n : Nat) (addrs : List Word) (vs : List Byte) :
    applyStores (s.withCpu c n) addrs vs = (applyStores s addrs vs).withCpu c n := by
  induction addrs generalizing s vs with
  | nil => rfl
  | cons a as ih =>
    cases vs with
    | nil => rfl
    | cons v vs =>
      simp only [applyStores, busWrite_withCpu]
      exact ih _ vs

/-- What every bus write keeps, the stores of a step keep. -/
theorem applyStores_keeps {P : State → Prop} (hwrite : ∀ s a v, P s → P (busWrite s a v)) {s : State} (h : P s)
    (addrs : List Word) (vs : List Byte) : P (applyStores s addrs vs) := by
  induction addrs generalizing s vs with
  | nil => exact h
  | cons a as ih =>
    cases vs with
    | nil => exact h
    | cons v vs => exact ih (hwrite s a v h) vs

/-- `t` is `s` after bus writes, with IF, the CPU and the cycle count set anew. -/
def AfterStores (s t : State) : Prop :=
  ∃ ifr addrs vs c n, t = (applyStores (s.setIo .ifr ifr) addrs vs).withCpu c n

theorem afterStores_withCpu (s : State) (c : Cpu) (n : Nat) : AfterStores s (s.withCpu c n) :=
  ⟨s.io.ifr, [], [], c, n, rfl⟩

theorem AfterStores.withCpu {s t : State} (h : AfterStores s t) (c : Cpu) (n : Nat) : AfterStores s (t.withCpu c n) := by
  obtain ⟨ifr, addrs, vs, _, _, rfl⟩ := h
  exact ⟨ifr, addrs, vs, c, n, rfl⟩

/-- The CPU a step starts from is not part of what its stores do. -/
theorem AfterStores.of_withCpu {s t : State} {c : Cpu} {n : Nat} (h : AfterStores (s.withCpu c n) t) : AfterStores s t := by
  obtain ⟨ifr, addrs, vs, d, m, rfl⟩ := h
  rw [setIo_withCpu, applyStores_withCpu, withCpu_withCpu]
  exact ⟨ifr, addrs, vs, d, m, rfl⟩

theorem exec_afterStores {i : Instr} {s t : State} (h : exec i s = .next t) : AfterStores s t := by
  obtain ⟨vs, c, n, -, e, -⟩ := exec_next h
  obtain rfl : t = (applyStores s (storeAddrs i s) vs).withCpu c n := by injection e
  exact ⟨s.io.ifr, storeAddrs i s, vs, c, n, rfl⟩

theorem dispatchInterrupt_afterStores {k : Irq} {s t : State} (h : dispatchInterrupt k s = .next t) : AfterStores s t := by
  rw [dispatchInterrupt_eq] at h
  injection h with h
  exact ⟨_, [s.cpu.sp - 1, s.cpu.sp - 2], [hiByte s.cpu.pc, loByte s.cpu.pc], _, _, h.symm⟩

theorem promoteEi_next {latched : Bool} {r : Result} {t : State} (h : promoteEi latched r = .next t) :
    ∃ u c, r = .next u ∧ t = u.withCpu c u.cycles := by
  cases r with
  | next u =>
    unfold promoteEi at h
    dsimp only at h
    split at h <;> injection h with h <;> exact ⟨u, _, rfl, h.symm⟩
  | fault e => cases h
  | refused e => cases h

theorem stallOrExecute_afterStores {s t : State} (h : stallOrExecute s = .next t) : AfterStores s t := by
  unfold stallOrExecute at h
  split at h
  next =>
    injection h with h
    exact h ▸ afterStores_withCpu s s.cpu 4
  next =>
    obtain ⟨u, c, hu, rfl⟩ := promoteEi_next h
    exact (exec_afterStores hu).withCpu c u.cycles

theorem cpuStep_afterStores {s t : State} (h : cpuStep s = .next t) : AfterStores s t := by
  unfold cpuStep at h
  split at h
  next => cases h
  split at h
  next => cases h
  split at h
  next k _ =>
    split at h
    · exact dispatchInterrupt_afterStores h
    · exact AfterStores.of_withCpu (c := { s.cpu with halted := false }) (n := s.cycles) (stallOrExecute_afterStores h)
  next => exact stallOrExecute_afterStores h

theorem step_next {s t : State} (h : step s = .next t) : ∃ u, AfterStores s u ∧ t = advanceDevices u := by
  unfold step machineStep at h
  split at h
  next u hu =>
    injection h with h
    exact ⟨u, cpuStep_afterStores hu, h.symm⟩
  next => cases h
  next => cases h

/-! ### The cartridge -/

/-- The parts of a cartridge that no step changes (R52, R106): all but the controller's registers and the RAM. -/
structure SameImage (c d : Cart) : Prop where
  rom : d.rom = c.rom
  title : d.title = c.title
  romSize : d.romSize = c.romSize
  ramSize : d.ramSize = c.ramSize
  mbc_kind : d.mbc.reset = c.mbc.reset

theorem SameImage.refl (c : Cart) : SameImage c c := ⟨rfl, rfl, rfl, rfl, rfl⟩

theorem SameImage.trans {c d e : Cart} (h : SameImage c d) (h' : SameImage d e) : SameImage c e :=
  ⟨h'.rom.trans h.rom, h'.title.trans h.title, h'.romSize.trans h.romSize, h'.ramSize.trans h.ramSize,
    h'.mbc_kind.trans h.mbc_kind⟩

theorem sameImage_cartWriteControl (c : Cart) (a : Nat) (v : Byte) : SameImage c (cartWriteControl c a v) := by
  unfold cartWriteControl
  split
  next => exact .refl c
  next r hm => exact ⟨rfl, rfl, rfl, rfl, hm ▸ rfl⟩
  next r hm => exact ⟨rfl, rfl, rfl, rfl, hm ▸ rfl⟩

theorem sameImage_cartWriteRam (c : Cart) (off : Nat) (v : Byte) : SameImage c (cartWriteRam c off v) := by
  unfold cartWriteRam
  split <;> exact ⟨rfl, rfl, rfl, rfl, rfl⟩

@[simp] theorem ioWrite_cart (s : State) (off : Nat) (v : Byte) : (ioWrite s off v).cart = s.cart := by
  obtain ⟨-, e⟩ | ⟨-, e⟩ | ⟨-, e⟩ | ⟨-, e⟩ | ⟨-, e⟩ | ⟨-, e⟩ | ⟨-, e⟩ := ioWrite_cases s off v <;> rw [e]
  · rw [writeP1_eq]
  · rfl
  · split
    · rfl
    · rw [lcdOffReset_frame (s.setIo .lcdc v)]
      rfl
  · rfl
  · obtain ⟨oam, e, -⟩ := dmaCopy_frame v (s.setIo .dma v)
    rw [e]
    rfl

theorem sameImage_busWrite (s : State) (a : Word) (v : Byte) : SameImage s.cart (busWrite s a v).cart := by
  obtain ⟨_, e, _⟩ | ⟨_, e, _⟩ | ⟨_, e, _⟩ | ⟨_, e, _⟩ | e | e | ⟨c, e, rfl | ⟨off, rfl⟩⟩ | ⟨off, e⟩ :=
    busWrite_cases s a v <;> rw [e]
  case inr.inr.inr.inr.inr.inr.inl.inl => exact sameImage_cartWriteControl _ _ v
  case inr.inr.inr.inr.inr.inr.inl.inr => exact sameImage_cartWriteRam _ off v
  case inr.inr.inr.inr.inr.inr.inr => exact ioWrite_cart s off v ▸ .refl s.cart
  all_goals exact .refl s.cart

@[simp] theorem advanceDevices_cart (s : State) : (advanceDevices s).cart = s.cart := by
  obtain ⟨_, _, _, _, e, _⟩ := timerStep_frame s.cycles (ppuStep s.cycles s)
  rw [advanceDevices, e, ppuStep_frame s.cycles s]

theorem sameImage_step {s t : State} (h : step s = .next t) : SameImage s.cart t.cart := by
  obtain ⟨u, ⟨ifr, addrs, vs, c, n, rfl⟩, rfl⟩ := step_next h
  rw [advanceDevices_cart]
  exact applyStores_keeps (P := fun u => SameImage s.cart u.cart) (fun u a v hu => hu.trans (sameImage_busWrite u a v))
    (s := s.setIo .ifr ifr) (SameImage.refl s.cart) addrs vs

theorem Mbc.reset_reset (m : Mbc) : m.reset.reset = m.reset := by
  cases m <;> rfl

theorem sameImage_resetMachine (s : State) : SameImage s.cart (resetMachine s).cart :=
  ⟨rfl, rfl, rfl, rfl, Mbc.reset_reset s.cart.mbc⟩

/-- Settles O44: stores and devices keep the image, and so does reset. -/
theorem romAndHeaderNeverChange : Obligations.RomAndHeaderNeverChange := by
  unfold Obligations.RomAndHeaderNeverChange
  intro s same
  have hsame {t : State} (h : SameImage s.cart t.cart) : same t := ⟨h.rom, h.title, h.romSize, h.ramSize, h.mbc_kind⟩
  exact ⟨hsame (sameImage_resetMachine s), fun t ht => hsame (sameImage_step ht)⟩

/-! ### The mode bits of STAT -/

/-- From `s` to `t` the mode bits of STAT were either set to the mode, or kept with it (R91, R373). -/
def StatFollows (s t : State) : Prop :=
  StatAgrees t ∨ (t.io.stat &&& 0x03 = s.io.stat &&& 0x03 ∧ t.ppu.mode = s.ppu.mode)

theorem StatFollows.kept {s t : State} (hstat : t.io.stat = s.io.stat) (hmode : t.ppu.mode = s.ppu.mode) :
    StatFollows s t := .inr ⟨hstat ▸ rfl, hmode⟩

theorem StatFollows.refl (s : State) : StatFollows s s := .kept rfl rfl

theorem StatFollows.agrees {s t : State} (h : StatFollows s t) (hs : StatAgrees s) : StatAgrees t :=
  h.elim id fun ⟨hstat, hmode⟩ => by
    rw [StatAgrees, hstat, hmode, hs]

theorem StatFollows.trans {s t u : State} (h : StatFollows s t) (h' : StatFollows t u) : StatFollows s u := by
  rcases h with h | ⟨hstat, hmode⟩
  · exact .inl (h'.agrees h)
  · exact h'.imp id fun ⟨hstat', hmode'⟩ => ⟨hstat'.trans hstat, hmode'.trans hmode⟩

/-- The mode bits as a change of mode writes them (R373). -/
theorem modeBits_written (stat : Byte) (m : PpuMode) : ((stat &&& 0xFC) ||| m.bits) &&& 0x03 = m.bits := by
  rw [BitVec.and_or_distrib_right, BitVec.and_assoc]
  cases m <;> simp [PpuMode.bits]

theorem statAgrees_enterMode (m : PpuMode) (s : State) : StatAgrees (enterMode m s) := by
  rw [StatAgrees, enterMode_stat, enterMode_ppu, modeBits_written]

theorem statFollows_lcdOffReset (s : State) : StatFollows s (lcdOffReset s) := by
  by_cases h : AtFrameStart s.ppu
  · rw [lcdOffReset_of_atFrameStart h]
    exact .refl s
  · rw [lcdOffReset_of_not_atFrameStart h]
    exact .inl (modeBits_written s.io.stat .oamScan)

theorem statFollows_ppuTransition (s : State) : StatFollows s (ppuTransition s) := by
  cases hm : s.ppu.mode
  case oamScan => exact ppuTransition_oamScan hm ▸ .inl (statAgrees_enterMode _ _)
  case drawing => exact ppuTransition_drawing hm ▸ .inl (statAgrees_enterMode _ _)
  case hBlank =>
    by_cases hl : s.ppu.line = 143
    · exact ppuTransition_hBlank_last hm hl ▸ .inl (statAgrees_enterMode .vBlank (setLine 144 (modeSpent s)))
    · exact ppuTransition_hBlank hm hl ▸ .inl (statAgrees_enterMode _ _)
  case vBlank =>
    by_cases hl : s.ppu.line < 153
    · exact ppuTransition_vBlank hm hl ▸ .inr ⟨setLine_stat _ _, setLine_mode _ _⟩
    · exact ppuTransition_vBlank_last hm (not_lt.1 hl) ▸ .inl (statAgrees_enterMode _ _)

theorem statFollows_ppuLoop (n : Nat) (s : State) : StatFollows s (ppuLoop n s) := by
  induction n generalizing s with
  | zero => exact .refl s
  | succ n ih =>
    unfold ppuLoop
    split
    · exact .refl s
    · exact (statFollows_ppuTransition s).trans (ih _)

theorem statFollows_ppuStep (c : Nat) (s : State) : StatFollows s (ppuStep c s) := by
  unfold ppuStep
  split
  · exact (StatFollows.kept rfl rfl).trans (statFollows_ppuLoop _ { s with ppu := { s.ppu with acc := s.ppu.acc + c } })
  · exact statFollows_lcdOffReset s

theorem statFollows_advanceDevices (s : State) : StatFollows s (advanceDevices s) := by
  obtain ⟨_, _, _, _, e, _⟩ := timerStep_frame s.cycles (ppuStep s.cycles s)
  rw [advanceDevices, e]
  exact (statFollows_ppuStep s.cycles s).trans (.kept rfl rfl)

/-- A write to STAT keeps bits 1:0 (R91), LCD off writes those of mode 2 (R372), no other write touches them. -/
theorem statFollows_ioWrite (s : State) (off : Nat) (v : Byte) : StatFollows s (ioWrite s off v) := by
  obtain ⟨-, e⟩ | ⟨-, e⟩ | ⟨-, e⟩ | ⟨-, e⟩ | ⟨-, e⟩ | ⟨-, e⟩ | ⟨hoff, e⟩ := ioWrite_cases s off v <;> rw [e]
  · exact writeP1_eq s v ▸ .kept rfl rfl
  · exact .kept rfl rfl
  · have hlcdc : StatFollows s (s.setIo .lcdc v) := .kept rfl rfl
    split
    · exact hlcdc
    · exact hlcdc.trans (statFollows_lcdOffReset _)
  · refine .inr ⟨?_, rfl⟩
    change ((s.io.stat &&& 0x87) ||| (v &&& 0x78)) &&& 0x03 = s.io.stat &&& 0x03
    rw [BitVec.and_or_distrib_right, BitVec.and_assoc, BitVec.and_assoc]
    simp
  · exact .refl s
  · obtain ⟨oam, e, -⟩ := dmaCopy_frame v (s.setIo .dma v)
    rw [e]
    exact .kept rfl rfl
  · obtain ⟨-, -, -, hstat, -⟩ := ioSet_other s.io v hoff
    exact .kept hstat rfl

theorem statFollows_busWrite (s : State) (a : Word) (v : Byte) : StatFollows s (busWrite s a v) := by
  obtain ⟨_, e, _⟩ | ⟨_, e, _⟩ | ⟨_, e, _⟩ | ⟨_, e, _⟩ | e | e | ⟨_, e, _⟩ | ⟨off, e⟩ := busWrite_cases s a v <;> rw [e]
  case inr.inr.inr.inr.inr.inr.inr => exact statFollows_ioWrite s off v
  all_goals exact .kept rfl rfl

theorem statFollows_step {s t : State} (h : step s = .next t) : StatFollows s t := by
  obtain ⟨u, ⟨ifr, addrs, vs, c, n, rfl⟩, rfl⟩ := step_next h
  have hstores : StatFollows s (applyStores (s.setIo .ifr ifr) addrs vs) :=
    applyStores_keeps (fun u a v hu => hu.trans (statFollows_busWrite u a v)) (.kept rfl rfl) addrs vs
  exact hstores.trans (statFollows_advanceDevices _)

/-- Settles O58: where the mode bits were not set to the mode, they and the mode are as they were. -/
theorem statModeBitsFollowMode : Obligations.StatModeBitsFollowMode := by
  unfold Obligations.StatModeBitsFollowMode
  rintro s t h (hs | hmode)
  · exact (statFollows_step h).agrees hs
  · exact (statFollows_step h).resolve_right fun hkept => hmode hkept.2

end Sys2Proof.Machine
end

section
/-! PROOFS of family 30_encoding.md. The decoder and the encoder are inverse to each other (R144, R150 to R155); the
first bytes that are undefined (R156). -/

namespace Sys2Proof

open Laws Machine

/-! ### From an instruction to its bytes and back -/

/-- The laws of family `RoundTrip` together, in the order of the constructors of `Instr`. -/
theorem roundTrip : ∀ i : Instr, RoundTrip.Statement i := by
  open RoundTrip in
  exact Instr.rec
    ldBcN16 ldBN8 ldIndA16Sp ldCN8 stop ldDeN16 ldDN8 jrE8 ldEN8 jrNzE8 ldHlN16 ldHN8 jrZE8 ldLN8 jrNcE8 ldSpN16
    ldIndHlN8 jrCE8 ldAN8 jpNzA16 jpA16 callNzA16 addAN8 jpZA16 callZA16 callA16 adcAN8 jpNcA16 callNcA16 subAN8
    jpCA16 callCA16 sbcAN8 ldhIndA8A andAN8 addSpE8 ldIndA16A xorAN8 ldhAIndA8 orAN8 ldHlSpE8 ldAIndA16 cpAN8 nop
    ldIndBcA incBc incB decB rlca addHlBc ldAIndBc decBc incC decC rrca ldIndDeA incDe incD decD rla addHlDe
    ldAIndDe decDe incE decE rra ldIndHliA incHl incH decH daa addHlHl ldAIndHli decHl incL decL cpl ldIndHldA incSp
    incIndHl decIndHl scf addHlSp ldAIndHld decSp incA decA ccf ldBB ldBC ldBD ldBE ldBH ldBL ldBIndHl ldBA ldCB
    ldCC ldCD ldCE ldCH ldCL ldCIndHl ldCA ldDB ldDC ldDD ldDE ldDH ldDL ldDIndHl ldDA ldEB ldEC ldED ldEE ldEH ldEL
    ldEIndHl ldEA ldHB ldHC ldHD ldHE ldHH ldHL ldHIndHl ldHA ldLB ldLC ldLD ldLE ldLH ldLL ldLIndHl ldLA ldIndHlB
    ldIndHlC ldIndHlD ldIndHlE ldIndHlH ldIndHlL halt ldIndHlA ldAB ldAC ldAD ldAE ldAH ldAL ldAIndHl ldAA addAB
    addAC addAD addAE addAH addAL addAIndHl addAA adcAB adcAC adcAD adcAE adcAH adcAL adcAIndHl adcAA subAB subAC
    subAD subAE subAH subAL subAIndHl subAA sbcAB sbcAC sbcAD sbcAE sbcAH sbcAL sbcAIndHl sbcAA andAB andAC andAD
    andAE andAH andAL andAIndHl andAA xorAB xorAC xorAD xorAE xorAH xorAL xorAIndHl xorAA orAB orAC orAD orAE orAH
    orAL orAIndHl orAA cpAB cpAC cpAD cpAE cpAH cpAL cpAIndHl cpAA retNz popBc pushBc rst00 retZ ret rst08 retNc
    popDe illegalD3 pushDe rst10 retC reti illegalDB illegalDD rst18 popHl ldhIndCA illegalE3 illegalE4 pushHl rst20
    jpHl illegalEB illegalEC illegalED rst28 popAf ldhAIndC di illegalF4 pushAf rst30 ldSpHl ei illegalFC illegalFD
    rst38 rlcB rlcC rlcD rlcE rlcH rlcL rlcIndHl rlcA rrcB rrcC rrcD rrcE rrcH rrcL rrcIndHl rrcA rlB rlC rlD rlE
    rlH rlL rlIndHl rlA rrB rrC rrD rrE rrH rrL rrIndHl rrA slaB slaC slaD slaE slaH slaL slaIndHl slaA sraB sraC
    sraD sraE sraH sraL sraIndHl sraA swapB swapC swapD swapE swapH swapL swapIndHl swapA srlB srlC srlD srlE srlH
    srlL srlIndHl srlA bit0B bit0C bit0D bit0E bit0H bit0L bit0IndHl bit0A bit1B bit1C bit1D bit1E bit1H bit1L
    bit1IndHl bit1A bit2B bit2C bit2D bit2E bit2H bit2L bit2IndHl bit2A bit3B bit3C bit3D bit3E bit3H bit3L
    bit3IndHl bit3A bit4B bit4C bit4D bit4E bit4H bit4L bit4IndHl bit4A bit5B bit5C bit5D bit5E bit5H bit5L
    bit5IndHl bit5A bit6B bit6C bit6D bit6E bit6H bit6L bit6IndHl bit6A bit7B bit7C bit7D bit7E bit7H bit7L
    bit7IndHl bit7A res0B res0C res0D res0E res0H res0L res0IndHl res0A res1B res1C res1D res1E res1H res1L
    res1IndHl res1A res2B res2C res2D res2E res2H res2L res2IndHl res2A res3B res3C res3D res3E res3H res3L
    res3IndHl res3A res4B res4C res4D res4E res4H res4L res4IndHl res4A res5B res5C res5D res5E res5H res5L
    res5IndHl res5A res6B res6C res6D res6E res6H res6L res6IndHl res6A res7B res7C res7D res7E res7H res7L
    res7IndHl res7A set0B set0C set0D set0E set0H set0L set0IndHl set0A set1B set1C set1D set1E set1H set1L
    set1IndHl set1A set2B set2C set2D set2E set2H set2L set2IndHl set2A set3B set3C set3D set3E set3H set3L
    set3IndHl set3A set4B set4C set4D set4E set4H set4L set4IndHl set4A set5B set5C set5D set5E set5H set5L
    set5IndHl set5A set6B set6C set6D set6E set6H set6L set6IndHl set6A set7B set7C set7D set7E set7H set7L
    set7IndHl set7A

/-- Settles O2: `roundTrip` is the statement. -/
theorem decodeOfEncodeIsIdentity : Obligations.DecodeOfEncodeIsIdentity := by
  unfold Obligations.DecodeOfEncodeIsIdentity
  exact roundTrip

/-- Settles O1: each word is the encoding of the instruction the grid names, so it decodes to it. -/
theorem sampleWordsDecode : Obligations.SampleWordsDecode := by
  unfold Obligations.SampleWordsDecode
  exact ⟨roundTrip .nop [], roundTrip (.ldBN8 0x03) [], roundTrip (.ldHlN16 0xC000) [], roundTrip .xorAA [],
    roundTrip (.jrNzE8 0xFD) [], roundTrip (.ldhIndA8A 0x46) [], roundTrip (.callA16 0x2000) [], roundTrip .bit7H [],
    roundTrip .set1E [], roundTrip .halt [], roundTrip .illegalDD []⟩

/-! ### From three bytes to an instruction and back -/

/-- Any two bytes are those of a 16-bit immediate (R143). -/
theorem exists_immediate (lo hi : Byte) : ∃ w : Word, immLow w = lo ∧ immHigh w = hi :=
  ⟨hi ++ lo, loByte_joinBytes hi lo, hiByte_joinBytes hi lo⟩

/-- A byte is made of its fields x, y, z (R142). -/
theorem exists_fields (b : Byte) :
    ∃ (x : Fin 4) (y z : Fin 8), fieldX b = x ∧ fieldY b = y ∧ fieldZ b = z ∧ b = opcodeOf x y z := by
  refine ⟨⟨fieldX b, ?_⟩, ⟨fieldY b, Nat.mod_lt _ (by decide)⟩, ⟨fieldZ b, Nat.mod_lt _ (by decide)⟩, rfl, rfl, rfl, ?_⟩
  · exact Nat.div_lt_of_lt_mul b.isLt
  · have hsum : 64 * fieldX b + 8 * fieldY b + fieldZ b = b.toNat := by
      unfold fieldX fieldY fieldZ
      omega
    rw [opcodeOf, hsum, BitVec.ofNat_toNat, BitVec.setWidth_eq]

/-- By row z and column y: every entry encodes to its place, then as many bytes of the immediate as it has (R150). -/
theorem encode_decodeQuadrant0 (w : Word) (y z : Fin 8) :
    encode (decodeQuadrant0 y z (immLow w) w) <+: [opcodeOf 0 y z, immLow w, immHigh w] := by
  fin_cases z <;> fin_cases y <;> exact ⟨_, rfl⟩

theorem encode_decodeQuadrant1 : ∀ y z : Fin 8, encode (decodeQuadrant1 y z) = [opcodeOf 1 y z] := by decide

theorem encode_decodeQuadrant2 : ∀ y z : Fin 8, encode (decodeQuadrant2 y z) = [opcodeOf 2 y z] := by decide

/-- The place y = 1, z = 3 of this quadrant is 0xCB, which opens the CB table (R155). -/
theorem encode_decodeQuadrant3 (w : Word) (y z : Fin 8) (h : opcodeOf 3 y z ≠ 0xCB#8) :
    encode (decodeQuadrant3 y z (immLow w) w) <+: [opcodeOf 3 y z, immLow w, immHigh w] := by
  fin_cases z
  pick_goal 4 -- z = 3
  · fin_cases y
    · exact ⟨_, rfl⟩
    · exact absurd rfl h
    all_goals exact ⟨_, rfl⟩
  all_goals fin_cases y <;> exact ⟨_, rfl⟩

theorem encode_decodeCb : ∀ op2 : Byte, encode (decodeCb op2) = [0xCB, op2] := by
  apply byte_cases
  decide +kernel

/-- The decoder by the quadrant of the first byte, each with its own lemma. -/
theorem encode_decode3 (b0 b1 b2 : Byte) : encode (decode3 b0 b1 b2) <+: [b0, b1, b2] := by
  by_cases hcb : b0 = 0xCB#8
  · rw [hcb, decode3, if_pos rfl, encode_decodeCb]
    exact List.prefix_append ..
  · obtain ⟨w, rfl, rfl⟩ := exists_immediate b1 b2
    obtain ⟨x, y, z, hx, hy, hz, hb⟩ := exists_fields b0
    rw [decode3, if_neg hcb, hx, hy, hz, immHigh_append_immLow, hb]
    rw [hb] at hcb
    fin_cases x
    · exact encode_decodeQuadrant0 w y z
    · exact encode_decodeQuadrant1 y z ▸ List.prefix_append ..
    · exact encode_decodeQuadrant2 y z ▸ List.prefix_append ..
    · exact encode_decodeQuadrant3 w y z hcb

/-- Settles O3: `encode_decode3` is the statement. -/
theorem encodeOfDecodeIsPrefix : Obligations.EncodeOfDecodeIsPrefix := by
  unfold Obligations.EncodeOfDecodeIsPrefix
  exact encode_decode3

/-! ### The undefined opcodes -/

/-- The eleven undefined first bytes (R156). -/
def undefinedOpcodes : List Byte :=
  [0xD3#8, 0xDB#8, 0xDD#8, 0xE3#8, 0xE4#8, 0xEB#8, 0xEC#8, 0xED#8, 0xF4#8, 0xFC#8, 0xFD#8]

theorem encode_mem_undefinedOpcodes {i : Instr} (h : i.isIllegal = true) : ∃ op ∈ undefinedOpcodes, encode i = [op] := by
  unfold Instr.isIllegal at h
  split at h
  case h_12 => cases h
  all_goals exact ⟨_, by decide, rfl⟩

/-- An instruction of one byte has the first of the three as its byte. -/
theorem eq_of_encode_decode3 {b0 b1 b2 op : Byte} (h : encode (decode3 b0 b1 b2) = [op]) : op = b0 :=
  (List.cons_prefix_cons.mp (h ▸ encode_decode3 b0 b1 b2)).1

theorem isIllegal_decode3_iff (b0 b1 b2 : Byte) : (decode3 b0 b1 b2).isIllegal = true ↔ b0 ∈ undefinedOpcodes := by
  constructor
  · intro h
    obtain ⟨op, hop, he⟩ := encode_mem_undefinedOpcodes h
    exact eq_of_encode_decode3 he ▸ hop
  · intro h
    simp only [undefinedOpcodes, List.mem_cons, List.not_mem_nil, or_false] at h
    rcases h with rfl | rfl | rfl | rfl | rfl | rfl | rfl | rfl | rfl | rfl | rfl <;> rfl

/-- A defined instruction completes, so only an undefined one faults (R295, R341). -/
theorem isIllegal_of_exec_fault {i : Instr} {s : State} {e : Fault} (h : exec i s = .fault e) : i.isIllegal = true := by
  by_contra hi
  obtain ⟨_, _, _, _, hnext, _⟩ := exec_completes i s (by simpa using hi)
  rw [h] at hnext
  cases hnext

/-- Settles O4: an undefined instruction is its one byte, which is the first one read. -/
theorem undefinedOpcodesAreTheseEleven : Obligations.UndefinedOpcodesAreTheseEleven := by
  unfold Obligations.UndefinedOpcodesAreTheseEleven
  intro b0 b1 b2 s
  refine ⟨isIllegal_decode3_iff b0 b1 b2, fun h => ?_, isIllegal_of_exec_fault⟩
  obtain ⟨op, he, hfault⟩ := exec_illegal _ s h
  rw [hfault, eq_of_encode_decode3 he]

end Sys2Proof
end

section
/-! PROOFS of family 40_load8.md. A form of instruction is its place in the grid and its shared operation; the operation's
next state is its law in Laws/Exec (R170 to R188). -/

namespace Sys2Proof

open Machine

/-! ### Addresses -/

/-- `0xFF00 + n` carries nothing out of the low byte, so it is `n` below the byte 0xFF (R181 to R184). -/
theorem highAddr_eq_append (n : Byte) : highAddr n = 0xFF#8 ++ n := by
  have hn : n.toNat < 2 ^ 8 := n.isLt
  apply BitVec.eq_of_toNat_eq
  rw [highAddr, zext16, BitVec.toNat_add, BitVec.toNat_setWidth, BitVec.toNat_append, ← Nat.shiftLeft_add_eq_or_of_lt hn,
    BitVec.toNat_ofNat, BitVec.toNat_ofNat]
  omega

/-! ### The register forms: place in the grid, shared operation -/

theorem encode_ldRegReg (dst src : Reg8) : encode (Form.ldRegReg dst src) = [opcodeOf 1 dst.index src.index] := by
  cases dst <;> cases src <;> rfl

theorem encode_ldRegN8 (dst : Reg8) (n : Byte) : encode (Form.ldRegN8 dst n) = [opcodeOf 0 dst.index 6, n] := by
  cases dst <;> rfl

theorem encode_ldRegIndHl (dst : Reg8) : encode (Form.ldRegIndHl dst) = [opcodeOf 1 dst.index 6] := by
  cases dst <;> rfl

theorem encode_ldIndHlReg (src : Reg8) : encode (Form.ldIndHlReg src) = [opcodeOf 1 6 src.index] := by
  cases src <;> rfl

theorem exec_ldRegReg (dst src : Reg8) (s : State) :
    exec (Form.ldRegReg dst src) s = loadReg dst (s.cpu.reg src) 1 4 s := by
  cases dst <;> cases src <;> rfl

theorem exec_ldRegN8 (dst : Reg8) (n : Byte) (s : State) : exec (Form.ldRegN8 dst n) s = loadReg dst n 2 8 s := by
  cases dst <;> rfl

theorem exec_ldRegIndHl (dst : Reg8) (s : State) :
    exec (Form.ldRegIndHl dst) s = loadFrom dst (s.cpu.pair .hl) 1 8 s := by
  cases dst <;> rfl

theorem exec_ldIndHlReg (src : Reg8) (s : State) :
    exec (Form.ldIndHlReg src) s = storeTo (s.cpu.pair .hl) (s.cpu.reg src) 1 8 s := by
  cases src <;> rfl

/-! ### The forms that step HL -/

/-- The byte is read at the old HL, and only A, HL and PC change (R186, R188). -/
theorem loadStep_next (d : Word) (s : State) :
    ∃ c, loadStep d s = .next (s.withCpu c 8) ∧ c.h ++ c.l = s.cpu.h ++ s.cpu.l + d ∧
      c = { s.cpu with a := busRead s (s.cpu.h ++ s.cpu.l), h := c.h, l := c.l, pc := s.cpu.pc + 1 } :=
  ⟨_, loadStep_eq d s, joinBytes_hi_lo _, rfl⟩

/-- A is stored at the old HL, and only HL and PC change in the CPU (R185, R187). -/
theorem storeStep_next (d : Word) (s : State) :
    ∃ c, storeStep d s = .next ((busWrite s (s.cpu.h ++ s.cpu.l) s.cpu.a).withCpu c 8) ∧
      c.h ++ c.l = s.cpu.h ++ s.cpu.l + d ∧ c = { s.cpu with h := c.h, l := c.l, pc := s.cpu.pc + 1 } :=
  ⟨_, storeStep_eq d s, joinBytes_hi_lo _, rfl⟩

/-! ### The statements -/

/-- Settles O9: each form is `loadReg` of its source, whose next state is `loadReg_eq`. -/
theorem loadRegister : Obligations.LoadRegister := by
  unfold Obligations.LoadRegister
  refine ⟨fun dst src s => ⟨encode_ldRegReg dst src, ?_⟩, fun dst n s => ⟨encode_ldRegN8 dst n, ?_⟩,
    fun dst s => ⟨encode_ldRegIndHl dst, ?_⟩, fun r q v c => Cpu.reg_setReg c r q v,
    fun _ _ => ⟨rfl, rfl, rfl, rfl, rfl, rfl, rfl⟩⟩
  · rw [exec_ldRegReg]
    exact loadReg_eq ..
  · rw [exec_ldRegN8]
    exact loadReg_eq ..
  · rw [exec_ldRegIndHl]
    exact loadReg_eq ..

/-- Settles O10: five loads are `loadReg` of the byte at their address, two are `loadStep`. -/
theorem loadAccumulator : Obligations.LoadAccumulator := by
  unfold Obligations.LoadAccumulator
  intro s w n
  rw [← highAddr_eq_append, ← highAddr_eq_append, BitVec.sub_eq_add_neg]
  exact ⟨rfl, rfl, rfl, rfl, rfl, rfl, rfl,
    loadReg_eq .a _ 1 8 s, loadReg_eq .a _ 1 8 s, loadReg_eq .a _ 3 16 s, loadReg_eq .a _ 1 8 s, loadReg_eq .a _ 2 12 s,
    loadStep_next 1 s, loadStep_next (-1) s⟩

/-- Settles O11: the stores are `storeTo` of their byte at their address, or `storeStep`. -/
theorem storeByte : Obligations.StoreByte := by
  unfold Obligations.StoreByte
  intro s w n hl
  rw [← highAddr_eq_append, ← highAddr_eq_append, BitVec.sub_eq_add_neg]
  exact ⟨fun r => ⟨encode_ldIndHlReg r, exec_ldIndHlReg r s ▸ storeTo_eq _ _ 1 8 s⟩,
    rfl, rfl, rfl, rfl, rfl, rfl, rfl, rfl,
    storeTo_eq _ n 2 12 s, storeTo_eq _ _ 1 8 s, storeTo_eq _ _ 1 8 s, storeTo_eq w _ 3 16 s, storeTo_eq _ _ 1 8 s,
    storeTo_eq _ _ 2 12 s, storeStep_next 1 s, storeStep_next (-1) s⟩

end Sys2Proof
end

section
/-! PROOFS of family 41_load16_stack.md. A 16-bit load or a stack instruction is its shared operation, whose next state is
its law in Laws/Exec; a word stored in two neighbouring plain cells is read back (R200 to R207, R248). -/

namespace Sys2Proof

open Machine

/-! ### The forms: place in the grid, shared operation -/

theorem encode_ldPairN16 (p : Pair) (w : Word) :
    encode (Form.ldPairN16 p w) = [opcodeOf 0 (2 * p.index) 1, w.extractLsb' 0 8, w.extractLsb' 8 8] := by
  cases p <;> rfl

theorem encode_push (p : StkPair) : encode (Form.push p) = [opcodeOf 3 (2 * p.index) 5] := by
  cases p <;> rfl

theorem encode_pop (p : StkPair) : encode (Form.pop p) = [opcodeOf 3 (2 * p.index) 1] := by
  cases p <;> rfl

theorem exec_ldPairN16 (p : Pair) (w : Word) (s : State) : exec (Form.ldPairN16 p w) s = loadPair p w 3 12 s := by
  cases p <;> rfl

theorem exec_push (p : StkPair) (s : State) : exec (Form.push p) s = pushStk p s := by
  cases p <;> rfl

theorem exec_pop (p : StkPair) (s : State) : exec (Form.pop p) s = popStk p s := by
  cases p <;> rfl

/-! ### SP plus a displacement -/

/-- The displacement is added as the signed number it is, modulo 2^16 (R203, R248). -/
theorem toNat_add_sext16 (sp : Word) (e : Byte) :
    ((sp + sext16 e).toNat : Int) = ((sp.toNat : Int) + e.toInt) % 65536 := by
  have h : sp + sext16 e = BitVec.ofInt 16 (sp.toNat + e.toInt) := by
    rw [BitVec.ofInt_add, BitVec.ofInt_natCast, BitVec.ofNat_toNat, BitVec.setWidth_eq]
    rfl
  rw [h, BitVec.toNat_ofInt]
  omega

/-! ### The pushed pair -/

/-- F is its upper nibble where its low nibble is 0, as in every state of a run (R22). -/
theorem and_f0_of_low_zero {f : Byte} (h : f &&& 0x0F = 0) : f &&& 0xF0 = f :=
  calc f &&& 0xF0
    _ = (f &&& 0xF0) ||| (f &&& 0x0F) := by
      rw [h]
      exact BitVec.or_zero.symm
    _ = f := by
      rw [← BitVec.and_or_distrib_left]
      exact BitVec.and_allOnes

/-- A pair loaded with its own value is as it was; F by its mask (R205, R207). -/
theorem Cpu.setStk_stk (c : Cpu) (p : StkPair) (h : c.f &&& 0x0F = 0) : c.setStk p (c.stk p) = c := by
  have hf : c.f &&& 0xF0 &&& 0xF0 = c.f := by rw [and_f0_of_low_zero h, and_f0_of_low_zero h]
  cases p <;> simp only [Cpu.setStk, Cpu.stk, Cpu.setPair, Cpu.pair, hiByte_joinBytes, loByte_joinBytes, hf]

/-- Loading a pair of `r16stk[]` neither reads nor writes SP and PC. -/
theorem Cpu.setStk_spPc (c : Cpu) (p : StkPair) (v sp pc : Word) :
    ({ c with sp := sp, pc := pc } : Cpu).setStk p v = { c.setStk p v with sp := sp, pc := pc } := by
  cases p <;> rfl

/-! ### Two neighbouring cells -/

/-- The index of a location in its memory; IE, the byte at 0xFFFF, counts as odd. -/
def locIndex : Loc → Nat
  | .bank0 i | .bankN i | .vram i | .xram i | .wram i | .oam i | .io i | .hram i => i
  | .unusable => 0
  | .ie => 1

/-- Every region begins at an even address, so an index is even exactly when its address is (R71). -/
theorem locIndex_locate_parity {a : Word} (h : locate a ≠ .unusable) : locIndex (locate a) % 2 = a.toNat % 2 := by
  have hlt := a.isLt
  by_cases hlo : a.toNat < 0xC000 <;> grind [locate, locIndex]

theorem toNat_of_locate_xram {a : Word} {off : Nat} (h : locate a = .xram off) :
    off < 0x2000 ∧ a.toNat = 0xA000 + off := by
  by_cases hlo : a.toNat < 0xC000 <;> grind [locate]

/-- Neighbouring addresses have different locations, but in the unusable region: one index is even, the other odd. -/
theorem locate_succ_ne {a : Word} (h : locate a ≠ .unusable) : locate (a + 1) ≠ locate a := by
  intro heq
  have hodd := locIndex_locate_parity (heq.trans_ne h)
  rw [heq, locIndex_locate_parity h] at hodd
  bv_omega

theorem locate_succ_xram {a : Word} {off off' : Nat} (h : locate a = .xram off) (h' : locate (a + 1) = .xram off') :
    off' = off + 1 := by
  obtain ⟨hoff, ha⟩ := toNat_of_locate_xram h
  obtain ⟨-, ha'⟩ := toNat_of_locate_xram h'
  bv_omega

/-- The RAM there is has more than one byte, so neighbouring offsets of its window show different ones (R113, R116). -/
theorem xramIndex_succ_ne {c : Cart} {off i : Nat} (h : xramIndex c off = some i) : xramIndex c (off + 1) ≠ some i := by
  unfold xramIndex at h ⊢
  obtain ⟨bank, hbank, hi⟩ := Option.map_eq_some_iff.1 h
  have hram := ramSize_of_ramBank hbank
  rw [hbank, Option.map_some, ← hi, ne_eq, Option.some_inj, ramIndex, ramIndex]
  generalize (bank &&& (c.ramSize.banks - 1)) * 0x2000 = base
  cases hz : c.ramSize <;> simp only [hz, RamSize.bytes] at hram ⊢ <;> omega

/-- The cell behind an address, where there is one: a byte of external RAM, or the address's own location. -/
theorem cellOf_cases {s : State} {a : Word} (h : cellOf s a ≠ .unusable) :
    (∃ off i, locate a = .xram off ∧ xramIndex s.cart off = some i ∧ cellOf s a = .xram i) ∨
      (cellOf s a = locate a ∧ ∀ off, locate a ≠ .xram off) := by
  revert h
  unfold cellOf
  split
  next off hloc =>
    cases hi : xramIndex s.cart off with
    | none => exact fun h => absurd rfl h
    | some i => exact fun _ => .inl ⟨off, i, hloc, hi, rfl⟩
  next hloc => exact fun _ => .inr ⟨rfl, hloc⟩

theorem cellOf_ne_unusable {s : State} {a : Word} (h : plainStore s a = true) : cellOf s a ≠ .unusable := by
  intro hcell
  rw [plainStore, hcell] at h
  exact Bool.false_ne_true h

/-- The cell after a plain one is another: in external RAM by the index, elsewhere by the location. -/
theorem cellOf_succ_ne {s : State} {a : Word} (h : plainStore s a = true) : cellOf s (a + 1) ≠ cellOf s a := by
  intro heq
  have ha := cellOf_ne_unusable h
  obtain ⟨off, i, hloc, hi, hcell⟩ | ⟨hcell, hloc⟩ := cellOf_cases ha <;>
    obtain ⟨off', i', hloc', hi', hcell'⟩ | ⟨hcell', hloc'⟩ := cellOf_cases (heq.trans_ne ha)
  · obtain rfl := locate_succ_xram hloc hloc'
    obtain rfl : i' = i := Loc.xram.inj (hcell'.symm.trans (heq.trans hcell))
    exact xramIndex_succ_ne hi hi'
  · exact hloc' i (hcell'.symm.trans (heq.trans hcell))
  · exact hloc i' (hcell.symm.trans (heq.symm.trans hcell'))
  · exact locate_succ_ne (hcell ▸ ha) (hcell'.symm.trans (heq.trans hcell))

/-- A word stored high byte first in two neighbouring plain cells is read back (R204, R206). -/
theorem busRead_storeWord {s : State} {a : Word} (hi lo : Byte) (ha : plainStore s a = true)
    (ha' : plainStore s (a + 1) = true) :
    busRead (busWrite (busWrite s (a + 1) hi) a lo) (a + 1) = hi ∧
      busRead (busWrite (busWrite s (a + 1) hi) a lo) a = lo := by
  have hplain : plainStore (busWrite s (a + 1) hi) a = true := (plainStore_busWrite hi ha' a).trans ha
  constructor
  · rw [busRead_busWrite lo hplain, cellOf_busWrite hi ha', cellOf_busWrite hi ha', if_neg (cellOf_succ_ne ha),
      busRead_busWrite hi ha', if_pos rfl]
  · rw [busRead_busWrite lo hplain, if_pos rfl]

/-- The word on top of a stack is the one whose bytes were stored there. -/
theorem top_withCpu_storeWord {s : State} {a : Word} (v : Word) {c : Cpu} (n : Nat) (hlo : plainStore s a = true)
    (hhi : plainStore s (a + 1) = true) (hsp : c.sp = a) :
    ((busWrite (busWrite s (a + 1) (hiByte v)) a (loByte v)).withCpu c n).top = v := by
  obtain ⟨hhi', hlo'⟩ := busRead_storeWord (hiByte v) (loByte v) hlo hhi
  rw [State.top, busRead_withCpu, busRead_withCpu, withCpu_cpu, hsp, hhi', hlo', joinBytes_hi_lo]

/-! ### The statements -/

/-- Settles O12: the forms are `loadPair` of their word; the clauses about pairs are the definitions of the accessors, and the
read after a write is `Cpu.pair_setPair`. -/
theorem loadPairAndStackPointer : Obligations.LoadPairAndStackPointer := by
  unfold Obligations.LoadPairAndStackPointer
  refine ⟨fun p w s => ⟨encode_ldPairN16 p w, ?_⟩, fun s => ⟨rfl, loadPair_eq .sp _ 1 8 s⟩,
    fun _ => ⟨rfl, rfl, rfl, rfl⟩, fun p q w c => Cpu.pair_setPair c p q w, fun _ _ => ⟨rfl, rfl, rfl, rfl⟩,
    fun _ _ => rfl⟩
  rw [exec_ldPairN16]
  exact loadPair_eq ..

/-- Settles O13: the sum is `toNat_add_sext16`, and F is `addSpFlags` for both instructions. -/
theorem stackPointerOffset : Obligations.StackPointerOffset := by
  unfold Obligations.StackPointerOffset
  intro e s
  exact ⟨rfl, rfl, addSpFlags s.cpu.sp e, s.cpu.sp + sext16 e, toNat_add_sext16 s.cpu.sp e, flagsAre_mkFlags .., rfl, rfl⟩

/-- Settles O14: PUSH is `pushStk` of the pair, whose bytes are its two registers; the other is `storeSp`. -/
theorem pushAndStoreSp : Obligations.PushAndStoreSp := by
  unfold Obligations.PushAndStoreSp
  refine ⟨fun p s => ⟨encode_push p, ?_⟩, fun w s => ⟨rfl, storeSp_eq w s⟩⟩
  rw [exec_push, pushStk_eq]
  cases p <;> simp only [Cpu.stk, Cpu.pair, hiByte_joinBytes, loByte_joinBytes]

/-- Settles O15: POP is `popStk`, and the two bytes of the word on top of the stack are those at SP + 1 and SP. -/
theorem popLoadsPair : Obligations.PopLoadsPair := by
  unfold Obligations.PopLoadsPair
  intro s lo hi
  have hpop (p : StkPair) := (exec_pop p s).trans (popStk_eq p s)
  have hhi : hiByte s.top = hi := hiByte_joinBytes ..
  have hlo : loByte s.top = lo := loByte_joinBytes ..
  simp only [Cpu.setStk, Cpu.setPair, hhi, hlo] at hpop
  exact ⟨encode_pop, hpop .bc, hpop .de, hpop .hl, hpop .af⟩

/-- Settles O16: the two stack cells hold the word that was pushed, so POP loads the pair with its own value. -/
theorem pushThenPopIsIdentity : Obligations.PushThenPopIsIdentity := by
  unfold Obligations.PushThenPopIsIdentity
  intro p s hhi hlo hf
  have hsp : s.cpu.sp - 1 = s.cpu.sp - 2 + 1 := by bv_omega
  have hdrop : s.cpu.sp - 2 + 2 = s.cpu.sp := BitVec.sub_add_cancel ..
  have hpc : s.cpu.pc + 1 + 1 = s.cpu.pc + 2 := BitVec.add_assoc ..
  refine ⟨_, _, (exec_push p s).trans (pushStk_eq p s), (exec_pop p _).trans (popStk_eq p _), ?_, hdrop⟩
  have hpair := Cpu.setStk_stk s.cpu p hf
  rw [hsp] at hhi ⊢
  rw [top_withCpu_storeWord _ _ hlo hhi, withCpu_cpu, withCpu_cpu, Cpu.setStk_spPc, hpair, hdrop, hpc]
  rfl

end Sys2Proof
end

section
/-! PROOFS of family 42_alu8.md. An accumulator operation is `aluWith` of its right operand, INC and DEC of a byte are
`updateOperand`; what is left of each statement is the arithmetic of its result and flags (R215 to R227). -/

namespace Sys2Proof

open Machine

/-! ### The forms: encoding, shared operation -/

theorem encode_aluInstr (op : AluOp) (arg : AluArg) : encode (arg.instr op) = arg.bytes op := by
  cases arg with
  | reg r => cases op <;> cases r <;> rfl
  | indHl => cases op <;> rfl
  | imm n => cases op <;> rfl

theorem exec_aluInstr (op : AluOp) (arg : AluArg) (s : State) :
    exec (arg.instr op) s = aluWith op (aluArgValue s arg) arg.length arg.cycles s := by
  cases arg with
  | reg r => cases op <;> cases r <;> rfl
  | indHl => cases op <;> rfl
  | imm n => cases op <;> rfl

/-- A and F are the two bytes of the computed result, and only PC changes beside them (R215). -/
theorem exec_aluInstr_of_eq {op : AluOp} {arg : AluArg} {s : State} {r : Flagged}
    (h : alu op s.cpu.a (aluArgValue s arg) s.cpu.f = r) :
    exec (arg.instr op) s = .next (s.withCpu
      { s.cpu with a := r.value, f := r.flags, pc := s.cpu.pc + BitVec.ofNat 16 arg.length } arg.cycles) := by
  rw [exec_aluInstr, aluWith_eq, h]

theorem encode_incForm (o : Operand8) : encode (incForm o) = [opcodeOf 0 o.index 4] := by
  cases o with
  | reg r => cases r <;> rfl
  | indHl => rfl

theorem encode_decForm (o : Operand8) : encode (decForm o) = [opcodeOf 0 o.index 5] := by
  cases o with
  | reg r => cases r <;> rfl
  | indHl => rfl

/-- An entry of `r8[]` rewritten with the flags of `r`, in `n` cycles for a register and `m` for `(HL)`. -/
def updateOperand (o : Operand8) (r : Flagged) (len n m : Nat) (s : State) : Result :=
  match o with
  | .reg dst => updateReg dst r len n s
  | .indHl => updateIndHl r len m s

theorem updateOperand_eq (o : Operand8) (r : Flagged) (len n m : Nat) (s : State) :
    updateOperand o r len n m s = .next ((writeOperand s o r.value).withCpu
      { (writeOperand s o r.value).cpu with f := r.flags, pc := s.cpu.pc + BitVec.ofNat 16 len }
      (byOperand o n m)) := by
  cases o with
  | reg dst => exact updateReg_eq ..
  | indHl =>
    rw [writeOperand, busWrite_cpu]
    exact updateIndHl_eq ..

theorem exec_incForm (o : Operand8) (s : State) :
    exec (incForm o) s = updateOperand o (inc8 (operandValue s o) s.cpu.f) 1 4 12 s := by
  cases o with
  | reg r => cases r <;> rfl
  | indHl => rfl

theorem exec_decForm (o : Operand8) (s : State) :
    exec (decForm o) s = updateOperand o (dec8 (operandValue s o) s.cpu.f) 1 4 12 s := by
  cases o with
  | reg r => cases r <;> rfl
  | indHl => rfl

/-! ### Results and flags, as numbers -/

theorem beq_zero_eq_decide (v : Byte) : (v == 0) = decide (v.toNat = 0) := by
  rw [Bool.eq_iff_iff, beq_iff_eq, decide_eq_true_iff]
  exact BitVec.toNat_eq

theorem ofNat_beq_zero (n : Nat) : (BitVec.ofNat 8 n == 0) = decide (n % 256 = 0) := by
  rw [beq_zero_eq_decide, BitVec.toNat_ofNat]

theorem add8_eq (a b : Byte) (c : Bool) :
    add8 a b c = ⟨BitVec.ofNat 8 (a.toNat + b.toNat + c.toNat),
      mkFlags (decide ((a.toNat + b.toNat + c.toNat) % 256 = 0)) false
        (decide (a.toNat % 16 + b.toNat % 16 + c.toNat > 15)) (decide (a.toNat + b.toNat + c.toNat > 255))⟩ := by
  rw [← ofNat_beq_zero]
  rfl

/-- A difference of bytes is the same byte whether it is taken on the integers or, raised by 512, on the naturals. -/
theorem ofInt_sub_eq_ofNat (a b : Byte) (c : Bool) :
    BitVec.ofInt 8 ((a.toNat : Int) - b.toNat - c.toNat) = BitVec.ofNat 8 (a.toNat + 512 - b.toNat - c.toNat) := by
  have hc := Bool.toNat_le c
  apply BitVec.eq_of_toNat_eq
  rw [BitVec.toNat_ofInt, BitVec.toNat_ofNat]
  omega

theorem sub8_eq (a b : Byte) (c : Bool) :
    sub8 a b c = ⟨BitVec.ofNat 8 (a.toNat + 512 - b.toNat - c.toNat),
      mkFlags (decide ((a.toNat + 512 - b.toNat - c.toNat) % 256 = 0)) true
        (decide (a.toNat % 16 < b.toNat % 16 + c.toNat)) (decide (a.toNat < b.toNat + c.toNat))⟩ := by
  rw [← ofNat_beq_zero, ← ofInt_sub_eq_ofNat]
  rfl

theorem inc8_eq (v f : Byte) :
    inc8 v f = ⟨BitVec.ofNat 8 (v.toNat + 1),
      mkFlags (decide (v.toNat = 255)) false (decide (v.toNat % 16 = 15)) (f.getLsbD 4)⟩ := by
  have hr : v + 1 = BitVec.ofNat 8 (v.toNat + 1) := by bv_omega
  have hz : (v.toNat + 1) % 256 = 0 ↔ v.toNat = 255 := by omega
  have hh : 15 < v.toNat % 16 + 1 ↔ v.toNat % 16 = 15 := by omega
  rw [inc8, hr, ofNat_beq_zero, lowNibble, decide_eq_decide.2 hz, decide_eq_decide.2 hh, flagC]

theorem dec8_eq (v f : Byte) :
    dec8 v f = ⟨BitVec.ofNat 8 (v.toNat + 255),
      mkFlags (decide (v.toNat = 1)) true (decide (v.toNat % 16 = 0)) (f.getLsbD 4)⟩ := by
  have hr : v - 1 = BitVec.ofNat 8 (v.toNat + 255) := by bv_omega
  have hz : (v.toNat + 255) % 256 = 0 ↔ v.toNat = 1 := by omega
  rw [dec8, hr, ofNat_beq_zero, lowNibble, decide_eq_decide.2 hz, flagC]
  rfl

/-- The flags of a logic operation: Z from the result, H as the operation fixes it (R220 to R222). -/
theorem flagsAre_logic (r : Byte) (h : Bool) :
    FlagsAre (mkFlags (r == 0) false h false) (decide (r.toNat = 0)) false h false :=
  beq_zero_eq_decide r ▸ flagsAre_mkFlags ..

/-! ### Packed BCD -/

theorem toNat_toBcd {n : Nat} (h : n < 100) : (toBcd n).toNat = 16 * (n / 10) + n % 10 := by
  rw [toBcd, BitVec.toNat_ofNat]
  omega

/-- The byte DAA corrects by is a sum: its two parts share no bit (R259). -/
theorem toNat_correction (low high : Bool) :
    ((if low then 0x06#8 else 0) ||| (if high then 0x60#8 else 0)).toNat =
      (if low then 6 else 0) + (if high then 96 else 0) := by
  cases low <;> cases high <;> rfl

/-- DAA where N is clear, as after an addition (R259). -/
theorem daa_of_not_flagN {a f : Byte} (hn : flagN f = false) :
    (daa a f).value.toNat = (a.toNat + ((if flagH f || decide (9 < a.toNat % 16) then 6 else 0) +
        (if flagC f || decide (153 < a.toNat) then 96 else 0))) % 256 ∧
      flagC (daa a f).flags = (flagC f || decide (153 < a.toNat)) := by
  unfold daa
  rw [hn]
  exact ⟨(BitVec.toNat_add ..).trans (by rw [toNat_correction]; rfl), flagC_mkFlags ..⟩

/-- DAA where N is set, as after a subtraction (R259). -/
theorem daa_of_flagN {a f : Byte} (hn : flagN f = true) :
    (daa a f).value.toNat =
        (256 - ((if flagH f then 6 else 0) + (if flagC f then 96 else 0)) + a.toNat) % 256 ∧
      flagC (daa a f).flags = flagC f := by
  unfold daa
  rw [hn]
  exact ⟨(BitVec.toNat_sub ..).trans (by rw [toNat_correction]), flagC_mkFlags ..⟩

/-- The sum of two packed-BCD bytes, corrected where its low digit passes 9 and where the decimal sum passes 99. -/
theorem toNat_toBcd_sum {x y c : Nat} (hx : x < 100) (hy : y < 100) (hc : c ≤ 1) :
    ((toBcd x).toNat + (toBcd y).toNat + c + ((if 9 < x % 10 + y % 10 + c then 6 else 0) +
      (if 100 ≤ x + y + c then 96 else 0))) % 256 = (toBcd ((x + y + c) % 100)).toNat := by
  rw [toNat_toBcd hx, toNat_toBcd hy, toNat_toBcd (Nat.mod_lt _ (by decide))]
  split <;> split <;> omega

/-- The difference of two packed-BCD bytes, corrected where its low digit borrows and where all of it does. -/
theorem toNat_toBcd_difference {x y c : Nat} (hx : x < 100) (hy : y < 100) (hc : c ≤ 1) :
    (256 - ((if x % 10 < y % 10 + c then 6 else 0) + (if x < y + c then 96 else 0)) +
      ((toBcd x).toNat + 512 - (toBcd y).toNat - c)) % 256 = (toBcd ((x + 200 - y - c) % 100)).toNat := by
  rw [toNat_toBcd hx, toNat_toBcd hy, toNat_toBcd (Nat.mod_lt _ (by decide))]
  split <;> split <;> omega

/-- The tests of DAA find the carries out of the two decimal digits of a sum (R217, R259). -/
theorem daa_add8_toBcd {x y : Nat} (hx : x < 100) (hy : y < 100) (c : Bool) :
    let r := add8 (toBcd x) (toBcd y) c
    (daa r.value r.flags).value = toBcd ((x + y + c.toNat) % 100) ∧
      flagC (daa r.value r.flags).flags = decide (x + y + c.toNat ≥ 100) := by
  have hc := Bool.toNat_le c
  have hp := toNat_toBcd hx
  have hq := toNat_toBcd hy
  have hsum := toNat_toBcd_sum hx hy hc
  rw [add8_eq]
  generalize hn : (toBcd x).toNat + (toBcd y).toNat + c.toNat = n at hsum ⊢
  have hlow : ((toBcd x).toNat % 16 + (toBcd y).toNat % 16 + c.toNat > 15 ∨ 9 < n % 256 % 16) ↔
      9 < x % 10 + y % 10 + c.toNat := by omega
  have hhigh : (n > 255 ∨ 153 < n % 256) ↔ 100 ≤ x + y + c.toNat := by omega
  obtain ⟨hvalue, hcarry⟩ := daa_of_not_flagN (a := BitVec.ofNat 8 n) (flagN_mkFlags ..)
  constructor
  · refine BitVec.eq_of_toNat_eq (hvalue.trans ?_)
    simp only [flagH_mkFlags, flagC_mkFlags, BitVec.toNat_ofNat, Nat.reducePow, ← Bool.decide_or, decide_eq_true_iff,
      hlow, hhigh, Nat.mod_add_mod, hsum]
  · rw [hcarry, flagC_mkFlags, BitVec.toNat_ofNat, ← Bool.decide_or, decide_eq_decide.2 hhigh]

/-- DAA finds the borrows of the two decimal digits of a difference in H and C (R219, R259). -/
theorem daa_sub8_toBcd {x y : Nat} (hx : x < 100) (hy : y < 100) (c : Bool) :
    let r := sub8 (toBcd x) (toBcd y) c
    (daa r.value r.flags).value = toBcd ((x + 200 - y - c.toNat) % 100) ∧
      flagC (daa r.value r.flags).flags = decide (x < y + c.toNat) := by
  have hc := Bool.toNat_le c
  have hp := toNat_toBcd hx
  have hq := toNat_toBcd hy
  have hlow : (toBcd x).toNat % 16 < (toBcd y).toNat % 16 + c.toNat ↔ x % 10 < y % 10 + c.toNat := by omega
  have hhigh : (toBcd x).toNat < (toBcd y).toNat + c.toNat ↔ x < y + c.toNat := by omega
  rw [sub8_eq]
  obtain ⟨hvalue, hcarry⟩ := daa_of_flagN (flagN_mkFlags ..)
  constructor
  · refine BitVec.eq_of_toNat_eq (hvalue.trans ?_)
    simp only [flagH_mkFlags, flagC_mkFlags, BitVec.toNat_ofNat, Nat.reducePow, decide_eq_true_iff, hlow, hhigh,
      Nat.add_mod_mod, toNat_toBcd_difference hx hy hc]
  · rw [hcarry, flagC_mkFlags, decide_eq_decide.2 hhigh]

/-- An operation with an immediate, then DAA: A and F are those DAA makes of the result. -/
theorem exec_aluN8_daa {op : AluOp} {n : Byte} {s : State} {r : Flagged} (h : alu op s.cpu.a n s.cpu.f = r) :
    ∃ t u, exec (Form.aluN8 op n) s = .next t ∧ exec .daa t = .next u ∧
      u.cpu.a = (daa r.value r.flags).value ∧ u.cpu.f = (daa r.value r.flags).flags :=
  ⟨_, _, exec_aluInstr_of_eq (arg := .imm n) h, updateReg_eq .., rfl, rfl⟩

/-! ### The statements -/

/-- Settles O17: both operations are `add8`, ADC with the carry of F. -/
theorem addAndAddWithCarry : Obligations.AddAndAddWithCarry := by
  unfold Obligations.AddAndAddWithCarry
  intro arg s withCarry op a b c
  have hc : (withCarry && s.cpu.f.getLsbD 4).toNat = c := Bool.cond_eq_ite ..
  have halu : alu op s.cpu.a (aluArgValue s arg) s.cpu.f =
      add8 s.cpu.a (aluArgValue s arg) (withCarry && s.cpu.f.getLsbD 4) := by
    cases withCarry <;> rfl
  rw [add8_eq, hc] at halu
  exact ⟨encode_aluInstr op arg, _, flagsAre_mkFlags .., exec_aluInstr_of_eq halu⟩

/-- Settles O18: all three are `sub8`, whose value CP drops. -/
theorem subtractAndCompare : Obligations.SubtractAndCompare := by
  unfold Obligations.SubtractAndCompare
  intro arg s a b carry after result
  have hc : (s.cpu.f.getLsbD 4).toNat = carry := Bool.cond_eq_ite ..
  have hsub : alu .sub s.cpu.a (aluArgValue s arg) s.cpu.f = sub8 s.cpu.a (aluArgValue s arg) false := rfl
  have hcp : alu .cp s.cpu.a (aluArgValue s arg) s.cpu.f =
    ⟨s.cpu.a, (sub8 s.cpu.a (aluArgValue s arg) false).flags⟩ := rfl
  have hsbc : alu .sbc s.cpu.a (aluArgValue s arg) s.cpu.f =
    sub8 s.cpu.a (aluArgValue s arg) (s.cpu.f.getLsbD 4) := rfl
  rw [sub8_eq] at hsub hcp hsbc
  rw [hc] at hsbc
  exact ⟨encode_aluInstr .sub arg, encode_aluInstr .sbc arg, encode_aluInstr .cp arg,
    ⟨_, flagsAre_mkFlags .., exec_aluInstr_of_eq hsub, exec_aluInstr_of_eq hcp⟩,
    ⟨_, flagsAre_mkFlags .., exec_aluInstr_of_eq hsbc⟩⟩

/-- Settles O19: one case per operation, each bit by the library's lemma for it. -/
theorem logicOperations : Obligations.LogicOperations := by
  unfold Obligations.LogicOperations
  intro arg s op hop
  refine ⟨encode_aluInstr op arg, ?_⟩
  obtain rfl | rfl | rfl := hop
  · exact ⟨_, _, fun _ => BitVec.getLsbD_and, flagsAre_logic _ true, exec_aluInstr_of_eq rfl⟩
  · exact ⟨_, _, fun _ => BitVec.getLsbD_xor, flagsAre_logic _ false, exec_aluInstr_of_eq rfl⟩
  · exact ⟨_, _, fun _ => BitVec.getLsbD_or, flagsAre_logic _ false, exec_aluInstr_of_eq rfl⟩

/-- Settles O20: each form is `updateOperand` of `inc8` or `dec8`. -/
theorem incrementDecrementByte : Obligations.IncrementDecrementByte := by
  unfold Obligations.IncrementDecrementByte
  intro o s v result
  refine ⟨encode_incForm o, encode_decForm o, ⟨_, flagsAre_mkFlags .., ?_⟩, ⟨_, flagsAre_mkFlags .., ?_⟩⟩
  · rw [exec_incForm, inc8_eq]
    exact updateOperand_eq ..
  · rw [exec_decForm, dec8_eq]
    exact updateOperand_eq ..

/-- Settles O24: DAA finds what ADC and SBC left in A, H and C. -/
theorem daaMakesDecimalArithmetic : Obligations.DaaMakesDecimalArithmetic := by
  unfold Obligations.DaaMakesDecimalArithmetic
  intro s x y hx hy ha c
  have hc : (s.cpu.f.getLsbD 4).toNat = c := Bool.cond_eq_ite ..
  rw [← hc]
  have hadc : alu .adc s.cpu.a (toBcd y) s.cpu.f = add8 (toBcd x) (toBcd y) (s.cpu.f.getLsbD 4) := by
    rw [ha]
    rfl
  have hsbc : alu .sbc s.cpu.a (toBcd y) s.cpu.f = sub8 (toBcd x) (toBcd y) (s.cpu.f.getLsbD 4) := by
    rw [ha]
    rfl
  constructor
  · obtain ⟨t, u, ht, hu, hvalue, hflags⟩ := exec_aluN8_daa hadc
    obtain ⟨hsum, hcarry⟩ := daa_add8_toBcd hx hy (s.cpu.f.getLsbD 4)
    exact ⟨t, u, ht, hu, hvalue.trans hsum, hflags ▸ hcarry⟩
  · obtain ⟨t, u, ht, hu, hvalue, hflags⟩ := exec_aluN8_daa hsbc
    obtain ⟨hdiff, hborrow⟩ := daa_sub8_toBcd hx hy (s.cpu.f.getLsbD 4)
    exact ⟨t, u, ht, hu, hvalue.trans hdiff, hflags ▸ hborrow⟩

end Sys2Proof
end

section
/-! PROOFS of family 43_alu16.md. INC and DEC of a pair are `stepPair` of 1 and of -1, ADD HL,rr is `addHl`; their next states
are their laws in Laws/Exec (R245 to R247). -/

namespace Sys2Proof

open Machine

/-! ### The forms: place in the grid, shared operation -/

theorem encode_incPair (p : Pair) : encode (Form.incPair p) = [opcodeOf 0 (2 * p.index) 3] := by
  cases p <;> rfl

theorem encode_decPair (p : Pair) : encode (Form.decPair p) = [opcodeOf 0 (2 * p.index + 1) 3] := by
  cases p <;> rfl

theorem encode_addHlPair (p : Pair) : encode (Form.addHlPair p) = [opcodeOf 0 (2 * p.index + 1) 1] := by
  cases p <;> rfl

theorem exec_incPair (p : Pair) (s : State) : exec (Form.incPair p) s = stepPair p 1 s := by
  cases p <;> rfl

theorem exec_decPair (p : Pair) (s : State) : exec (Form.decPair p) s = stepPair p (-1) s := by
  cases p <;> rfl

theorem exec_addHlPair (p : Pair) (s : State) : exec (Form.addHlPair p) s = addHl p s := by
  cases p <;> rfl

/-! ### The statement -/

/-- Settles O21: a sum of words is the word of the sum of their numbers, -1 being 65535; the flags are `addHlFlags` of the old
operands. -/
theorem pairArithmetic : Obligations.PairArithmetic := by
  unfold Obligations.PairArithmetic
  intro p s v hl
  have hinc : s.cpu.pair p + 1 = BitVec.ofNat 16 (v + 1) := BitVec.add_def ..
  have hdec : s.cpu.pair p + -1 = BitVec.ofNat 16 (v + 65535) := BitVec.add_def ..
  have hsum : s.cpu.pair .hl + s.cpu.pair p = BitVec.ofNat 16 (hl + v) := BitVec.add_def ..
  refine ⟨encode_incPair p, encode_decPair p, encode_addHlPair p, ?_, ?_,
    addHlFlags (s.cpu.pair .hl) (s.cpu.pair p) s.cpu.f, flagsAre_mkFlags .., ?_⟩
  · rw [exec_incPair, stepPair_eq, hinc]
  · rw [exec_decPair, stepPair_eq, hdec]
  · rw [exec_addHlPair, addHl_eq, hsum]

end Sys2Proof
end

section
/-! PROOFS of family 44_rotate_misc.md. An accumulator rotate and CPL, DAA are `updateReg` of A, SCF and CCF are `flagsOnly`;
what is left of each statement is the bits of `rotateBits` and the arithmetic of `daa` (R255 to R262). -/

namespace Sys2Proof

open Machine

/-! ### Next states -/

theorem flagsOnly_eq (f : Byte) (s : State) :
    flagsOnly f s = .next (s.withCpu { s.cpu with f := f, pc := s.cpu.pc + 1 } 4) := rfl

theorem rotateA_eq (op : RotOp) (s : State) :
    rotateA op s = .next (s.withCpu { s.cpu with
      a := (rotateBits op s.cpu.a (flagC s.cpu.f)).1,
      f := mkFlags false false false (rotateBits op s.cpu.a (flagC s.cpu.f)).2, pc := s.cpu.pc + 1 } 4) :=
  updateReg_eq ..

theorem exec_daa (s : State) :
    exec .daa s = .next (s.withCpu { s.cpu with
      a := (daa s.cpu.a s.cpu.f).value, f := (daa s.cpu.a s.cpu.f).flags, pc := s.cpu.pc + 1 } 4) :=
  updateReg_eq ..

theorem exec_cpl (s : State) :
    exec .cpl s = .next (s.withCpu { s.cpu with
      a := ~~~s.cpu.a, f := mkFlags (flagZ s.cpu.f) true true (flagC s.cpu.f), pc := s.cpu.pc + 1 } 4) := by
  have hnot : s.cpu.a ^^^ 0xFF = ~~~s.cpu.a := BitVec.xor_allOnes
  rw [← hnot]
  exact updateReg_eq ..

/-! ### The bits of a rotate -/

/-- A byte moved left by one, with `c` in bit 0. -/
theorem getLsbD_shiftLeft_one_or (v : Byte) (c : Bool) {i : Nat} (hi : i < 8) :
    ((v <<< 1) ||| (BitVec.ofBool c).setWidth 8).getLsbD i = if i = 0 then c else v.getLsbD (i - 1) := by
  obtain rfl | hpos := Nat.eq_zero_or_pos i
  · simp
  · simp [hi, hpos.ne', BitVec.getLsbD_eq_getElem (Nat.lt_of_le_of_lt (Nat.sub_le i 1) hi)]

/-- A byte moved right by one, with `c` in bit 7. -/
theorem getLsbD_shiftRight_one_or (v : Byte) (c : Bool) {i : Nat} (hi : i < 8) :
    ((v >>> 1) ||| (BitVec.ofBool c).setWidth 8 <<< 7).getLsbD i = if i = 7 then c else v.getLsbD (i + 1) := by
  obtain rfl | hne := eq_or_ne i 7
  · simp
  · have hlt : i < 7 := by omega
    simp [hi, hne, hlt, Nat.add_comm]

/-- The byte SRA keeps of `v` is bit 7 alone (R306). -/
theorem and_80_eq_bit7 (v : Byte) : v &&& 0x80 = (BitVec.ofBool (v.getLsbD 7)).setWidth 8 <<< 7 := by
  refine (BitVec.and_twoPow v 7).trans ?_
  cases v.getLsbD 7 <;> rfl

/-- Each operation of `rot[]` gives the bits its rule names (R301 to R308). -/
theorem getLsbD_rotateBits (op : RotOp) (v : Byte) (c : Bool) {i : Nat} (hi : i < 8) :
    (rotateBits op v c).1.getLsbD i = rotatedBit op v c i := by
  cases op with
  | rlc =>
    refine (getLsbD_shiftLeft_one_or v (v.getLsbD 7) hi).trans ?_
    have hbit : (i + 7) % 8 = if i = 0 then 7 else i - 1 := by
      split <;> omega
    rw [rotatedBit, hbit, apply_ite v.getLsbD]
  | rrc =>
    refine (getLsbD_shiftRight_one_or v (v.getLsbD 0) hi).trans ?_
    have hbit : (i + 1) % 8 = if i = 7 then 0 else i + 1 := by
      split <;> omega
    rw [rotatedBit, hbit, apply_ite v.getLsbD]
  | rl => exact getLsbD_shiftLeft_one_or v c hi
  | rr => exact getLsbD_shiftRight_one_or v c hi
  | sla =>
    rw [rotatedBit, ← getLsbD_shiftLeft_one_or v false hi]
    exact congrArg (BitVec.getLsbD · i) BitVec.or_zero.symm
  | sra =>
    rw [rotatedBit, ← getLsbD_shiftRight_one_or v (v.getLsbD 7) hi, ← and_80_eq_bit7]
    rfl
  | swap =>
    refine (BitVec.getLsbD_rotateLeft (x := v) (r := 4)).trans ?_
    have hbit : (i + 4) % 8 = if i < 4 then 4 + i else i - 4 := by
      split <;> omega
    rw [rotatedBit, hbit, apply_ite v.getLsbD]
    simp [hi, Bool.cond_eq_ite]
  | srl =>
    rw [rotatedBit, ← getLsbD_shiftRight_one_or v false hi]
    exact congrArg (BitVec.getLsbD · i) BitVec.or_zero.symm

theorem rotateBits_snd (op : RotOp) (v : Byte) (c : Bool) : (rotateBits op v c).2 = rotatedOut op v := by
  cases op <;> rfl

/-- The next state of an accumulator rotate, bit by bit: Z is clear whatever the result is (R255 to R258). -/
theorem rotateA_rotated (op : RotOp) (s : State) :
    ∃ r f : Byte, (∀ i, i < 8 → r.getLsbD i = rotatedBit op s.cpu.a (s.cpu.f.getLsbD 4) i) ∧
      FlagsAre f false false false (rotatedOut op s.cpu.a) ∧
      rotateA op s = .next (s.withCpu { s.cpu with a := r, f := f, pc := s.cpu.pc + 1 } 4) :=
  ⟨_, _, fun _ hi => getLsbD_rotateBits op s.cpu.a (flagC s.cpu.f) hi, rotateBits_snd op .. ▸ flagsAre_mkFlags ..,
    rotateA_eq op s⟩

/-! ### DAA -/

/-- Z is that of the result, N is kept and H is clear; C is what `daa_of_not_flagN` and `daa_of_flagN` say (R259). -/
theorem daa_flags_eq (a f : Byte) :
    (daa a f).flags = mkFlags (decide ((daa a f).value.toNat = 0)) (flagN f) false (flagC (daa a f).flags) := by
  rw [← beq_zero_eq_decide]
  unfold daa
  cases flagN f <;> simp

/-! ### The statements -/

/-- Settles O22: a rotate is `rotateA` of its operation, and the others are `exec_cpl` and `flagsOnly_eq`. -/
theorem accumulatorRotatesAndCarry : Obligations.AccumulatorRotatesAndCarry := by
  unfold Obligations.AccumulatorRotatesAndCarry
  intro s
  refine ⟨?_, rfl, rfl, rfl, ⟨_, flagsAre_mkFlags .., exec_cpl s⟩, ⟨_, flagsAre_mkFlags .., flagsOnly_eq ..⟩,
    ⟨_, flagsAre_mkFlags .., flagsOnly_eq ..⟩⟩
  simp only [List.forall_mem_cons]
  exact ⟨⟨rfl, rotateA_rotated .rlc s⟩, ⟨rfl, rotateA_rotated .rrc s⟩, ⟨rfl, rotateA_rotated .rl s⟩,
    ⟨rfl, rotateA_rotated .rr s⟩, List.forall_mem_nil _⟩

/-- Settles O23: value and carry by the cases of N, `daa_of_not_flagN` and `daa_of_flagN`; the other flags are
`daa_flags_eq`. -/
theorem decimalAdjust : Obligations.DecimalAdjust := by
  unfold Obligations.DecimalAdjust
  intro s a n low high corr r
  have hdaa : (daa s.cpu.a s.cpu.f).value.toNat = r % 256 ∧
      flagC (daa s.cpu.a s.cpu.f).flags = if n then s.cpu.f.getLsbD 4 else high := by
    cases hn : n with
    | false =>
      simp only [r, corr, low, high, hn, Bool.not_false, Bool.true_and, Bool.false_eq_true, if_false]
      exact daa_of_not_flagN hn
    | true =>
      have hcorr : corr ≤ 256 := by
        simp only [corr]
        split <;> split <;> decide
      have hr : r = 256 - corr + a := by
        simp only [r, hn, if_true]
        omega
      rw [hr]
      simp only [corr, low, high, hn, Bool.not_true, Bool.false_and, Bool.or_false, if_true]
      exact daa_of_flagN hn
  obtain ⟨hvalue, hcarry⟩ := hdaa
  have hr : (daa s.cpu.a s.cpu.f).value = BitVec.ofNat 8 r := BitVec.eq_of_toNat_eq hvalue
  refine ⟨rfl, (daa s.cpu.a s.cpu.f).flags, ?_, hr ▸ exec_daa s⟩
  rw [daa_flags_eq, hcarry, hvalue]
  exact flagsAre_mkFlags ..

end Sys2Proof
end

section
/-! PROOFS of family 45_control_flow.md. A jump, call, return or restart is its shared operation, whose next state is its law
in Laws/Exec; a conditional form is the operation taken when its condition holds (R270 to R281). -/

namespace Sys2Proof

open Machine

/-! ### The conditional forms and the restarts: place in the grid, shared operation -/

theorem encode_jpCond (k : Cond) (w : Word) :
    encode (Form.jpCond k w) = [opcodeOf 3 k.index 2, w.extractLsb' 0 8, w.extractLsb' 8 8] := by
  cases k <;> rfl

theorem encode_jrCond (k : Cond) (e : Byte) : encode (Form.jrCond k e) = [opcodeOf 0 (4 + k.index) 0, e] := by
  cases k <;> rfl

theorem encode_callCond (k : Cond) (w : Word) :
    encode (Form.callCond k w) = [opcodeOf 3 k.index 4, w.extractLsb' 0 8, w.extractLsb' 8 8] := by
  cases k <;> rfl

theorem encode_retCond (k : Cond) : encode (Form.retCond k) = [opcodeOf 3 k.index 0] := by
  cases k <;> rfl

theorem encode_rst (y : Fin 8) : encode (Form.rst y) = [opcodeOf 3 y.val 7] := by
  fin_cases y <;> rfl

theorem exec_jpCond (k : Cond) (w : Word) (s : State) :
    exec (Form.jpCond k w) s = jumpAbs (Cond.holds k s.cpu.f) w s := by
  cases k <;> rfl

theorem exec_jrCond (k : Cond) (e : Byte) (s : State) :
    exec (Form.jrCond k e) s = jumpRel (Cond.holds k s.cpu.f) e s := by
  cases k <;> rfl

theorem exec_callCond (k : Cond) (w : Word) (s : State) :
    exec (Form.callCond k w) s = callAbs (Cond.holds k s.cpu.f) w s := by
  cases k <;> rfl

theorem exec_retCond (k : Cond) (s : State) : exec (Form.retCond k) s = retCond (Cond.holds k s.cpu.f) s := by
  cases k <;> rfl

theorem exec_rst (y : Fin 8) (s : State) : exec (Form.rst y) s = restart (BitVec.ofNat 16 (8 * y.val)) s := by
  fin_cases y <;> rfl

/-! ### The target of a relative jump -/

/-- The displacement is added, as the signed number it is, to the address after the two bytes of `JR` (R274). -/
theorem add_two_add_sext16 (pc : Word) (e : Byte) :
    pc + 2 + sext16 e = BitVec.ofInt 16 ((pc.toNat : Int) + 2 + e.toInt) := by
  rw [BitVec.ofInt_add, BitVec.ofInt_add, BitVec.ofInt_natCast, BitVec.ofNat_toNat, BitVec.setWidth_eq]
  rfl

/-! ### The statements -/

/-- Settles O28: a jump is `jumpAbs` or `jumpRel` of its condition, and the law of either is read in both outcomes; the
relative target is `add_two_add_sext16`. -/
theorem jumps : Obligations.Jumps := by
  unfold Obligations.Jumps
  refine ⟨fun _ => ⟨rfl, rfl, rfl, rfl⟩, fun s w e => ?_⟩
  rw [← add_two_add_sext16]
  refine ⟨rfl, jumpAbs_eq true w s, rfl, rfl, rfl, jumpRel_eq true e s, fun k =>
    ⟨encode_jpCond k w, ?_, encode_jrCond k e, ?_⟩⟩
  · rw [exec_jpCond, jumpAbs_eq]
    cases Cond.holds k s.cpu.f <;> rfl
  · rw [exec_jrCond, jumpRel_eq]
    cases Cond.holds k s.cpu.f <;> rfl

/-- Settles O29: a call is `callAbs` of its condition and a restart is `restart` of its target, whose laws give the stored
return address. -/
theorem callsAndRestarts : Obligations.CallsAndRestarts := by
  unfold Obligations.CallsAndRestarts
  exact fun s w => ⟨rfl, callAbs_eq true w s,
    fun k => ⟨encode_callCond k w, (exec_callCond k w s).trans (callAbs_eq ..)⟩,
    fun y => ⟨encode_rst y, (exec_rst y s).trans (restart_eq ..)⟩⟩

/-- Settles O30: RET, RETI and `retCond` by their laws, the word on top of the stack being the bytes at SP + 1 and SP. -/
theorem returns : Obligations.Returns := by
  unfold Obligations.Returns
  refine fun s => ⟨rfl, rfl, ret_eq s, reti_eq s, fun k => ⟨encode_retCond k, ?_⟩⟩
  rw [exec_retCond, retCond_eq]
  cases Cond.holds k s.cpu.f <;> rfl

end Sys2Proof
end

section
/-! PROOFS of family 46_system.md. NOP, HALT, STOP, DI, EI and the undefined opcodes: what each does, what a faulted or a
stopped core refuses, and that no other instruction but RETI writes a control flag (R290 to R295). -/

namespace Sys2Proof.Machine

/-! ### A fault and a refusal of the step -/

/-- A fault of the CPU step is that of the machine step (R320). -/
theorem step_of_cpuStep_fault {s : State} {e : Fault} (h : cpuStep s = .fault e) : step s = .fault e := by
  rw [step, machineStep, h]

/-- A refusal of the CPU step is that of the machine step (R320). -/
theorem step_of_cpuStep_refused {s : State} {r : Refusal} (h : cpuStep s = .refused r) : step s = .refused r := by
  rw [step, machineStep, h]

theorem cpuStep_of_faulted {s : State} (h : s.cpu.fault.isSome = true) : cpuStep s = .refused .cpuFaulted := by
  rw [cpuStep, if_pos h]

theorem cpuStep_of_stopped {s : State} (hf : s.cpu.fault = none) (h : s.cpu.stopped = true) :
    cpuStep s = .refused .stopped := by
  rw [cpuStep, hf, if_neg (by decide), if_pos h]

/-- An undefined opcode at PC is fetched, whatever bytes follow it, and faults there (R295, R340). -/
theorem exec_fetch_undefined {s : State} (h : busRead s s.cpu.pc ∈ undefinedOpcodes) (t : State) :
    exec (fetch s) t = .fault (.illegalOpcode (busRead s s.cpu.pc) t.cpu.pc) := by
  obtain ⟨hIllegal, hFault, -⟩ := undefinedOpcodesAreTheseEleven (busRead s s.cpu.pc) _ _ t
  exact hFault (hIllegal.mpr h)

/-! ### The statements on single instructions -/

/-- Settles O31: the four meanings, each a CPU and a cycle count. -/
theorem nopHaltDiEi : Obligations.NopHaltDiEi := by
  unfold Obligations.NopHaltDiEi
  exact fun s => ⟨rfl, rfl, rfl, rfl, rfl, rfl, rfl, rfl⟩

/-- Settles O7: the step that fetches an undefined opcode runs it and nothing else, and a recorded fault is looked at
first. -/
theorem undefinedOpcodeFaultsUntilReset : Obligations.UndefinedOpcodeFaultsUntilReset := by
  unfold Obligations.UndefinedOpcodeFaultsUntilReset
  intro i s hi
  have hIllegal : i.isIllegal = true := by simpa using hi
  obtain ⟨op, hop, he⟩ := encode_mem_undefinedOpcodes hIllegal
  obtain ⟨op', he', hexec⟩ := exec_illegal i s hIllegal
  obtain rfl : op' = op := by simpa [he] using he'.symm
  refine ⟨op', he, hexec, ?step, rfl, step_of_cpuStep_refused (cpuStep_of_faulted rfl), rfl⟩
  case step =>
    intro hfault hstopped hrun hquiet hpc
    apply step_of_cpuStep_fault
    rw [cpuStep_executes hfault hstopped hquiet hrun, exec_fetch_undefined (hpc ▸ hop), hpc]
    rfl

/-- Settles O8: the meaning of STOP; `stopped` is looked at before anything runs, and the joypad update keeps the CPU. -/
theorem stopStopsTheCoreUntilReset : Obligations.StopStopsTheCoreUntilReset := by
  unfold Obligations.StopStopsTheCoreUntilReset
  refine ⟨fun n s => ⟨rfl, rfl⟩, fun s hfault hstopped =>
    ⟨step_of_cpuStep_refused (cpuStep_of_stopped hfault hstopped), rfl, fun k p => ?button⟩⟩
  case button =>
    obtain ⟨ifr, hupdate⟩ := joypadUpdate_frame { s with joypad := { s.joypad with btn := s.joypad.btn.set k p } }
    rw [setButton, hupdate]
    exact hstopped

/-! ### The control fields of the CPU -/

/-- The fields that steer the core: IME, the EI latch, HALT, STOP and the recorded fault (R25 to R29). -/
def Cpu.control (c : Cpu) : Bool × Bool × Bool × Bool × Option IllegalOpcode :=
  (c.ime, c.imePending, c.halted, c.stopped, c.fault)

theorem Cpu.control_setReg (c : Cpu) (r : Reg8) (v : Byte) : (c.setReg r v).control = c.control := by
  cases r <;> rfl

theorem Cpu.control_setPair (c : Cpu) (p : Pair) (v : Word) : (c.setPair p v).control = c.control := by
  cases p <;> rfl

theorem Cpu.control_setStk (c : Cpu) (p : StkPair) (v : Word) : (c.setStk p v).control = c.control := by
  cases p <;> rfl

/-- Where `r` is a next state, it has the control fields of `s`. -/
def KeepsControl (s : State) (r : Result) : Prop := ∀ t, r = .next t → t.cpu.control = s.cpu.control

theorem keepsControl_of_next {s u : State} {c : Cpu} {n : Nat} {r : Result} (hr : r = .next (u.withCpu c n))
    (hc : c.control = s.cpu.control) : KeepsControl s r := by
  rw [hr]
  rintro t ⟨⟩
  exact hc

/-! ### One lemma per shared operation -/

theorem keepsControl_loadReg {r : Reg8} {v : Byte} {len cyc : Nat} {s : State} :
    KeepsControl s (loadReg r v len cyc s) := keepsControl_of_next (loadReg_eq ..) (Cpu.control_setReg ..)

theorem keepsControl_storeTo {a : Word} {v : Byte} {len cyc : Nat} {s : State} :
    KeepsControl s (storeTo a v len cyc s) := keepsControl_of_next (storeTo_eq ..) rfl

theorem keepsControl_storeStep {d : Word} {s : State} : KeepsControl s (storeStep d s) :=
  keepsControl_of_next (storeStep_eq ..) rfl

theorem keepsControl_loadStep {d : Word} {s : State} : KeepsControl s (loadStep d s) :=
  keepsControl_of_next (loadStep_eq ..) rfl

theorem keepsControl_loadPair {p : Pair} {v : Word} {len cyc : Nat} {s : State} :
    KeepsControl s (loadPair p v len cyc s) := keepsControl_of_next (loadPair_eq ..) (Cpu.control_setPair ..)

theorem keepsControl_pushStk {p : StkPair} {s : State} : KeepsControl s (pushStk p s) :=
  keepsControl_of_next (pushStk_eq ..) rfl

theorem keepsControl_popStk {p : StkPair} {s : State} : KeepsControl s (popStk p s) :=
  keepsControl_of_next (popStk_eq ..) (Cpu.control_setStk ..)

theorem keepsControl_aluWith {op : AluOp} {b : Byte} {len cyc : Nat} {s : State} :
    KeepsControl s (aluWith op b len cyc s) := keepsControl_of_next (aluWith_eq ..) rfl

theorem keepsControl_updateReg {r : Reg8} {v : Flagged} {len cyc : Nat} {s : State} :
    KeepsControl s (updateReg r v len cyc s) := keepsControl_of_next (updateReg_eq ..) (Cpu.control_setReg ..)

theorem keepsControl_updateIndHl {v : Flagged} {len cyc : Nat} {s : State} :
    KeepsControl s (updateIndHl v len cyc s) := keepsControl_of_next (updateIndHl_eq ..) rfl

theorem keepsControl_stepPair {p : Pair} {d : Word} {s : State} : KeepsControl s (stepPair p d s) :=
  keepsControl_of_next (stepPair_eq ..) (Cpu.control_setPair ..)

theorem keepsControl_flagsOnly {f : Byte} {s : State} : KeepsControl s (flagsOnly f s) :=
  keepsControl_of_next (flagsOnly_eq ..) rfl

theorem keepsControl_testBit {n : Fin 8} {v : Byte} {cyc : Nat} {s : State} : KeepsControl s (testBit n v cyc s) :=
  keepsControl_of_next (testBit_eq ..) rfl

theorem keepsControl_jumpAbs {k : Bool} {a : Word} {s : State} : KeepsControl s (jumpAbs k a s) :=
  keepsControl_of_next (jumpAbs_eq ..) rfl

theorem keepsControl_jumpRel {k : Bool} {e : Byte} {s : State} : KeepsControl s (jumpRel k e s) :=
  keepsControl_of_next (jumpRel_eq ..) rfl

theorem keepsControl_callAbs {k : Bool} {a : Word} {s : State} : KeepsControl s (callAbs k a s) := by
  cases k <;> exact keepsControl_of_next (callAbs_eq ..) rfl

theorem keepsControl_retCond {k : Bool} {s : State} : KeepsControl s (retCond k s) := by
  cases k <;> exact keepsControl_of_next (retCond_eq ..) rfl

theorem keepsControl_restart {a : Word} {s : State} : KeepsControl s (restart a s) :=
  keepsControl_of_next (restart_eq ..) rfl

theorem keepsControl_fault {e : Fault} {s : State} : KeepsControl s (.fault e) := by
  rintro t ⟨⟩

/-! ### The CB forms: shared operation -/

theorem exec_rotReg (op : RotOp) (r : Reg8) (s : State) : exec (Form.rotReg op r) s = rotReg op r s := by
  cases op <;> cases r <;> rfl

theorem exec_rotIndHl (op : RotOp) (s : State) : exec (Form.rotIndHl op) s = rotIndHl op s := by
  cases op <;> rfl

theorem exec_bitReg (n : Fin 8) (r : Reg8) (s : State) : exec (Form.bitReg n r) s = testBit n (s.cpu.reg r) 8 s := by
  fin_cases n <;> cases r <;> rfl

theorem exec_bitIndHl (n : Fin 8) (s : State) :
    exec (Form.bitIndHl n) s = testBit n (busRead s (s.cpu.pair .hl)) 12 s := by
  fin_cases n <;> rfl

theorem exec_resReg (n : Fin 8) (r : Reg8) (s : State) : exec (Form.resReg n r) s = modifyReg (clearBit n) r s := by
  fin_cases n <;> cases r <;> rfl

theorem exec_resIndHl (n : Fin 8) (s : State) : exec (Form.resIndHl n) s = modifyIndHl (clearBit n) s := by
  fin_cases n <;> rfl

theorem exec_setReg (n : Fin 8) (r : Reg8) (s : State) : exec (Form.setReg n r) s = modifyReg (setBit n) r s := by
  fin_cases n <;> cases r <;> rfl

theorem exec_setIndHl (n : Fin 8) (s : State) : exec (Form.setIndHl n) s = modifyIndHl (setBit n) s := by
  fin_cases n <;> rfl

/-! ### All instructions, by the quadrant of the decoder that gives them -/

/-- The control fields that `i` changes are those it is one of the writers of. -/
def WritesOwnControl (i : Instr) (s : State) : Prop :=
  ∀ t, exec i s = .next t →
    (t.cpu.ime ≠ s.cpu.ime → i = .di ∨ i = .reti) ∧
    (t.cpu.imePending ≠ s.cpu.imePending → i = .di ∨ i = .ei) ∧
    (t.cpu.halted ≠ s.cpu.halted → i = .halt) ∧
    (t.cpu.stopped ≠ s.cpu.stopped → ∃ n, i = .stop n) ∧
    t.cpu.fault = s.cpu.fault

/-- An instruction whose operation keeps them all. -/
theorem writesOwnControl_of_keeps {i : Instr} {s : State} {r : Result} (hi : exec i s = r) (h : KeepsControl s r) :
    WritesOwnControl i s := by
  intro t ht
  simp only [KeepsControl, Cpu.control, Prod.mk.injEq] at h
  obtain ⟨hIme, hPending, hHalted, hStopped, hFault⟩ := h t (hi.symm.trans ht)
  exact ⟨fun hne => absurd hIme hne, fun hne => absurd hPending hne, fun hne => absurd hHalted hne,
    fun hne => absurd hStopped hne, hFault⟩

theorem writesOwnControl_stop (n : Byte) (s : State) : WritesOwnControl (.stop n) s := by
  rintro t ⟨⟩
  exact ⟨fun h => absurd rfl h, fun h => absurd rfl h, fun h => absurd rfl h, fun _ => ⟨n, rfl⟩, rfl⟩

theorem writesOwnControl_halt (s : State) : WritesOwnControl .halt s := by
  rintro t ⟨⟩
  exact ⟨fun h => absurd rfl h, fun h => absurd rfl h, fun _ => rfl, fun h => absurd rfl h, rfl⟩

theorem writesOwnControl_di (s : State) : WritesOwnControl .di s := by
  rintro t ⟨⟩
  exact ⟨fun _ => .inl rfl, fun _ => .inl rfl, fun h => absurd rfl h, fun h => absurd rfl h, rfl⟩

theorem writesOwnControl_ei (s : State) : WritesOwnControl .ei s := by
  rintro t ⟨⟩
  exact ⟨fun h => absurd rfl h, fun _ => .inr rfl, fun h => absurd rfl h, fun h => absurd rfl h, rfl⟩

theorem writesOwnControl_reti (s : State) : WritesOwnControl .reti s := by
  rintro t ⟨⟩
  exact ⟨fun _ => .inr rfl, fun h => absurd rfl h, fun h => absurd rfl h, fun h => absurd rfl h, rfl⟩

theorem writesOwnControl_decodeQuadrant0 (y z : Nat) (n : Byte) (w : Word) (s : State) :
    WritesOwnControl (decodeQuadrant0 y z n w) s := by
  unfold decodeQuadrant0
  split
  next => -- z = 0
    split
    · exact writesOwnControl_of_keeps rfl (keepsControl_of_next (c := { s.cpu with pc := s.cpu.pc + 1 }) rfl rfl)
    · exact writesOwnControl_of_keeps rfl (keepsControl_of_next (storeSp_eq ..) rfl)
    · exact writesOwnControl_stop n s
    · exact writesOwnControl_of_keeps rfl (keepsControl_jumpRel (k := true))
    · exact writesOwnControl_of_keeps (exec_jrCond ..) keepsControl_jumpRel
  next => -- z = 1
    split
    · exact writesOwnControl_of_keeps (exec_ldPairN16 ..) keepsControl_loadPair
    · exact writesOwnControl_of_keeps (exec_addHlPair ..) (keepsControl_of_next (addHl_eq ..) rfl)
  next => -- z = 2
    split
    · exact writesOwnControl_of_keeps rfl keepsControl_storeTo
    · exact writesOwnControl_of_keeps rfl keepsControl_loadReg
    · exact writesOwnControl_of_keeps rfl keepsControl_storeTo
    · exact writesOwnControl_of_keeps rfl keepsControl_loadReg
    · exact writesOwnControl_of_keeps rfl keepsControl_storeStep
    · exact writesOwnControl_of_keeps rfl keepsControl_loadStep
    · exact writesOwnControl_of_keeps rfl keepsControl_storeStep
    · exact writesOwnControl_of_keeps rfl keepsControl_loadStep
  next => -- z = 3
    split
    · exact writesOwnControl_of_keeps (exec_incPair ..) keepsControl_stepPair
    · exact writesOwnControl_of_keeps (exec_decPair ..) keepsControl_stepPair
  next => -- z = 4
    split
    next r _ => exact writesOwnControl_of_keeps (exec_incForm (.reg r) s) keepsControl_updateReg
    next => exact writesOwnControl_of_keeps (exec_incForm .indHl s) keepsControl_updateIndHl
  next => -- z = 5
    split
    next r _ => exact writesOwnControl_of_keeps (exec_decForm (.reg r) s) keepsControl_updateReg
    next => exact writesOwnControl_of_keeps (exec_decForm .indHl s) keepsControl_updateIndHl
  next => -- z = 6
    split
    · exact writesOwnControl_of_keeps (exec_ldRegN8 ..) keepsControl_loadReg
    · exact writesOwnControl_of_keeps rfl keepsControl_storeTo
  next => -- z = 7
    split
    case h_7 | h_8 => exact writesOwnControl_of_keeps rfl keepsControl_flagsOnly
    all_goals exact writesOwnControl_of_keeps rfl keepsControl_updateReg

theorem writesOwnControl_decodeQuadrant1 (y z : Nat) (s : State) : WritesOwnControl (decodeQuadrant1 y z) s := by
  unfold decodeQuadrant1
  split
  · exact writesOwnControl_of_keeps (exec_ldRegReg ..) keepsControl_loadReg
  · exact writesOwnControl_of_keeps (exec_ldRegIndHl ..) keepsControl_loadReg
  · exact writesOwnControl_of_keeps (exec_ldIndHlReg ..) keepsControl_storeTo
  · exact writesOwnControl_halt s

theorem writesOwnControl_decodeQuadrant2 (y z : Nat) (s : State) : WritesOwnControl (decodeQuadrant2 y z) s := by
  unfold decodeQuadrant2
  split
  next r _ => exact writesOwnControl_of_keeps (exec_aluInstr (aluOf y) (.reg r) s) keepsControl_aluWith
  next => exact writesOwnControl_of_keeps (exec_aluInstr (aluOf y) .indHl s) keepsControl_aluWith

theorem writesOwnControl_illegal {i : Instr} (hi : i.isIllegal = true) (s : State) : WritesOwnControl i s := by
  obtain ⟨op, -, hfault⟩ := exec_illegal i s hi
  exact writesOwnControl_of_keeps hfault keepsControl_fault

theorem writesOwnControl_decodeQuadrant3 (y z : Nat) (n : Byte) (w : Word) (s : State) :
    WritesOwnControl (decodeQuadrant3 y z n w) s := by
  unfold decodeQuadrant3
  split
  next => -- z = 0
    split
    · exact writesOwnControl_of_keeps rfl keepsControl_storeTo
    · exact writesOwnControl_of_keeps rfl (keepsControl_of_next
        (c := { s.cpu with sp := s.cpu.sp + sext16 n, f := addSpFlags s.cpu.sp n, pc := s.cpu.pc + 2 }) rfl rfl)
    · exact writesOwnControl_of_keeps rfl keepsControl_loadReg
    · exact writesOwnControl_of_keeps rfl (keepsControl_of_next
        (c := { s.cpu.setPair .hl (s.cpu.sp + sext16 n) with f := addSpFlags s.cpu.sp n, pc := s.cpu.pc + 2 }) rfl rfl)
    · exact writesOwnControl_of_keeps (exec_retCond ..) keepsControl_retCond
  next => -- z = 1
    split
    · exact writesOwnControl_of_keeps rfl (keepsControl_of_next (ret_eq s) rfl)
    · exact writesOwnControl_reti s
    · exact writesOwnControl_of_keeps rfl (keepsControl_of_next (c := { s.cpu with pc := s.cpu.pair .hl }) rfl rfl)
    · exact writesOwnControl_of_keeps rfl keepsControl_loadPair
    · exact writesOwnControl_of_keeps (exec_pop ..) keepsControl_popStk
  next => -- z = 2
    split
    · exact writesOwnControl_of_keeps rfl keepsControl_storeTo
    · exact writesOwnControl_of_keeps rfl keepsControl_storeTo
    · exact writesOwnControl_of_keeps rfl keepsControl_loadReg
    · exact writesOwnControl_of_keeps rfl keepsControl_loadReg
    · exact writesOwnControl_of_keeps (exec_jpCond ..) keepsControl_jumpAbs
  next => -- z = 3
    split
    case h_1 => exact writesOwnControl_of_keeps rfl (keepsControl_jumpAbs (k := true))
    case h_6 => exact writesOwnControl_di s
    case h_7 => exact writesOwnControl_ei s
    all_goals exact writesOwnControl_illegal rfl s
  next => -- z = 4
    split
    case h_5 => exact writesOwnControl_of_keeps (exec_callCond ..) keepsControl_callAbs
    all_goals exact writesOwnControl_illegal rfl s
  next => -- z = 5
    split
    case h_1 => exact writesOwnControl_of_keeps rfl (keepsControl_callAbs (k := true))
    case h_5 => exact writesOwnControl_of_keeps (exec_push ..) keepsControl_pushStk
    all_goals exact writesOwnControl_illegal rfl s
  next => -- z = 6
    exact writesOwnControl_of_keeps (exec_aluInstr (aluOf y) (.imm n) s) keepsControl_aluWith
  next => -- z = 7
    exact writesOwnControl_of_keeps (exec_rst ..) keepsControl_restart

theorem writesOwnControl_decodeCb (op2 : Byte) (s : State) : WritesOwnControl (decodeCb op2) s := by
  unfold decodeCb
  split
  · exact writesOwnControl_of_keeps (exec_rotReg ..) keepsControl_updateReg
  · exact writesOwnControl_of_keeps (exec_rotIndHl ..) keepsControl_updateIndHl
  · exact writesOwnControl_of_keeps (exec_bitReg ..) keepsControl_testBit
  · exact writesOwnControl_of_keeps (exec_bitIndHl ..) keepsControl_testBit
  · exact writesOwnControl_of_keeps (exec_resReg ..) keepsControl_loadReg
  · exact writesOwnControl_of_keeps (exec_resIndHl ..) keepsControl_storeTo
  · exact writesOwnControl_of_keeps (exec_setReg ..) keepsControl_loadReg
  · exact writesOwnControl_of_keeps (exec_setIndHl ..) keepsControl_storeTo

theorem writesOwnControl_decode3 (b0 b1 b2 : Byte) (s : State) : WritesOwnControl (decode3 b0 b1 b2) s := by
  unfold decode3
  split
  next => exact writesOwnControl_decodeCb b1 s
  split
  · exact writesOwnControl_decodeQuadrant0 _ _ _ _ s
  · exact writesOwnControl_decodeQuadrant1 _ _ s
  · exact writesOwnControl_decodeQuadrant2 _ _ s
  · exact writesOwnControl_decodeQuadrant3 _ _ _ _ s

/-- What `decode` reads is what `decode3` reads of some three bytes. -/
theorem exists_decode3_of_decode {l rest : List Byte} {i : Instr} (h : decode l = .ok (i, rest)) :
    ∃ b0 b1 b2, decode3 b0 b1 b2 = i := by
  unfold decode at h
  split at h
  next => cases h
  split at h <;> cases h <;> exact ⟨_, _, _, rfl⟩

/-- Every instruction is one the decoder gives, since it decodes its encoding. -/
theorem exists_decode3 (i : Instr) : ∃ b0 b1 b2, decode3 b0 b1 b2 = i :=
  exists_decode3_of_decode (roundTrip i [])

/-- Settles O35: every instruction is one the decoder gives, and the decoder's entries are shared operations, which keep
the control fields, and the five instructions that write some. -/
theorem controlFlagsChangeOnlyByTheirInstructions : Obligations.ControlFlagsChangeOnlyByTheirInstructions := by
  unfold Obligations.ControlFlagsChangeOnlyByTheirInstructions
  intro i s
  obtain ⟨b0, b1, b2, rfl⟩ := exists_decode3 i
  exact writesOwnControl_decode3 b0 b1 b2 s

end Sys2Proof.Machine
end

section
/-! PROOFS of family 47_cb_prefixed.md. A rotate, shift or SWAP is `updateOperand`, BIT n is `testBit`, RES n and SET n are
`modifyOperand`; what is left of each statement is the bits and flags of its result (R300 to R311). -/

namespace Sys2Proof

open Machine

/-! ### The forms: encoding (R155) -/

theorem encode_rotForm (op : RotOp) (o : Operand8) : encode (rotForm op o) = [0xCB, opcodeOf 0 op.index o.index] := by
  cases o with
  | reg r => cases op <;> cases r <;> rfl
  | indHl => cases op <;> rfl

theorem encode_bitForm (n : Fin 8) (o : Operand8) : encode (bitForm n o) = [0xCB, opcodeOf 1 n.val o.index] := by
  cases o with
  | reg r => fin_cases n <;> cases r <;> rfl
  | indHl => fin_cases n <;> rfl

theorem encode_resForm (n : Fin 8) (o : Operand8) : encode (resForm n o) = [0xCB, opcodeOf 2 n.val o.index] := by
  cases o with
  | reg r => fin_cases n <;> cases r <;> rfl
  | indHl => fin_cases n <;> rfl

theorem encode_setForm (n : Fin 8) (o : Operand8) : encode (setForm n o) = [0xCB, opcodeOf 3 n.val o.index] := by
  cases o with
  | reg r => fin_cases n <;> cases r <;> rfl
  | indHl => fin_cases n <;> rfl

/-! ### The forms: shared operation -/

theorem exec_rotForm (op : RotOp) (o : Operand8) (s : State) :
    exec (rotForm op o) s = updateOperand o (rotate op (operandValue s o) s.cpu.f) 2 8 16 s := by
  cases o with
  | reg r => exact exec_rotReg op r s
  | indHl => exact exec_rotIndHl op s

theorem exec_bitForm (n : Fin 8) (o : Operand8) (s : State) :
    exec (bitForm n o) s = testBit n (operandValue s o) (byOperand o 8 12) s := by
  cases o with
  | reg r => exact exec_bitReg n r s
  | indHl => exact exec_bitIndHl n s

/-- An entry of `r8[]` rewritten by `g`, no flags. -/
def modifyOperand (g : Byte → Byte) (o : Operand8) (s : State) : Result :=
  match o with
  | .reg r => modifyReg g r s
  | .indHl => modifyIndHl g s

/-- The write is made whatever `g` answers (R300). -/
theorem modifyOperand_eq (g : Byte → Byte) (o : Operand8) (s : State) :
    modifyOperand g o s = .next ((writeOperand s o (g (operandValue s o))).withCpu
      { (writeOperand s o (g (operandValue s o))).cpu with pc := s.cpu.pc + 2 } (byOperand o 8 16)) := by
  cases o with
  | reg r => exact loadReg_eq ..
  | indHl =>
    rw [writeOperand, busWrite_cpu]
    exact storeTo_eq ..

theorem exec_resForm (n : Fin 8) (o : Operand8) (s : State) :
    exec (resForm n o) s = modifyOperand (clearBit n) o s := by
  cases o with
  | reg r => exact exec_resReg n r s
  | indHl => exact exec_resIndHl n s

theorem exec_setForm (n : Fin 8) (o : Operand8) (s : State) :
    exec (setForm n o) s = modifyOperand (setBit n) o s := by
  cases o with
  | reg r => exact exec_setReg n r s
  | indHl => exact exec_setIndHl n s

/-! ### Results and flags -/

theorem flagsAre_rotate (op : RotOp) (v f : Byte) :
    FlagsAre (rotate op v f).flags (decide ((rotate op v f).value.toNat = 0)) false false (rotatedOut op v) := by
  rw [← beq_zero_eq_decide, ← rotateBits_snd op v (flagC f)]
  exact flagsAre_mkFlags ..

/-- The mask of bit `n` has that bit and no other. -/
theorem getLsbD_bitMask (n : Fin 8) (i : Nat) : (1#8 <<< n.val).getLsbD i = decide (i = n.val) := by
  rw [← BitVec.twoPow_eq, BitVec.getLsbD_twoPow, decide_eq_true n.isLt, Bool.true_and]
  exact decide_eq_decide.2 eq_comm

theorem getLsbD_clearBit (n : Fin 8) (v : Byte) {i : Nat} (hi : i < 8) :
    (clearBit n v).getLsbD i = if i = n.val then false else v.getLsbD i := by
  have hmask : 0xFF ^^^ (1#8 <<< n.val) = ~~~(1#8 <<< n.val) := (BitVec.xor_comm ..).trans BitVec.xor_allOnes
  rw [clearBit, hmask, BitVec.getLsbD_and, BitVec.getLsbD_not, getLsbD_bitMask]
  split <;> simp [*]

theorem getLsbD_setBit (n : Fin 8) (v : Byte) (i : Nat) :
    (setBit n v).getLsbD i = if i = n.val then true else v.getLsbD i := by
  rw [setBit, BitVec.getLsbD_or, getLsbD_bitMask]
  split <;> simp [*]

/-! ### The statements -/

/-- Settles O25: each form is `updateOperand` of `rotate`, whose bits are those of `rotateBits`. -/
theorem rotateShiftSwap : Obligations.RotateShiftSwap := by
  unfold Obligations.RotateShiftSwap
  intro op o s v
  refine ⟨encode_rotForm op o, (rotate op v s.cpu.f).value, (rotate op v s.cpu.f).flags,
    fun i hi => getLsbD_rotateBits op v (flagC s.cpu.f) hi, flagsAre_rotate op v s.cpu.f, ?_⟩
  rw [exec_rotForm]
  exact updateOperand_eq ..

/-- Settles O26: each form is `Machine.testBit` of its operand, which writes F and PC alone. -/
theorem testBit : Obligations.TestBit := by
  unfold Obligations.TestBit
  exact fun n o s => ⟨encode_bitForm n o, _, flagsAre_mkFlags .., exec_bitForm n o s⟩

/-- Settles O27: each form is `modifyOperand` of `clearBit` or `setBit`, known bit by bit. -/
theorem resetAndSetBit : Obligations.ResetAndSetBit := by
  unfold Obligations.ResetAndSetBit
  intro n o s v result
  refine ⟨encode_resForm n o, encode_setForm n o,
    ⟨clearBit n v, fun i hi => getLsbD_clearBit n v hi, ?_⟩, ⟨setBit n v, fun i _ => getLsbD_setBit n v i, ?_⟩⟩
  · rw [exec_resForm]
    exact modifyOperand_eq ..
  · rw [exec_setForm]
    exact modifyOperand_eq ..

end Sys2Proof
end

section
/-! PROOFS of family 60_exceptions.md. The CPU step and the machine step around it: an instruction, a stall, a dispatch, and
the EI latch (R320 to R328, R333, R334). -/

namespace Sys2Proof.Machine

/-- The devices consume the cycles the CPU step returned (R320). -/
theorem step_of_cpuStep_next {s t : State} (h : cpuStep s = .next t) :
    step s = .next (timerStep t.cycles (ppuStep t.cycles t)) := by
  rw [step, machineStep, h]
  rfl

/-- The bytes at PC decode to the instruction the step fetches. -/
theorem fetch_of_decode {s : State} {i : Instr} {rest : List Byte}
    (h : decode [busRead s s.cpu.pc, busRead s (s.cpu.pc + 1), busRead s (s.cpu.pc + 2)] = .ok (i, rest)) :
    fetch s = i := decode3_of_decode h

/-! ### One instruction -/

theorem promoteEi_of_next (latched : Bool) (t : State) :
    promoteEi latched (.next t) = .next (if latched && t.cpu.imePending then
      t.withCpu { t.cpu with ime := true, imePending := false } t.cycles else t) := by
  unfold promoteEi
  dsimp only
  split <;> rfl

theorem exec_next_of_wellFormed {i : Instr} (h : WellFormed i) (s : State) : ∃ t, exec i s = .next t := by
  obtain ⟨_, _, _, -, e, -⟩ := exec_completes i s h
  exact ⟨_, e⟩

/-- Settles O5: the fetched instruction completes, and the step is its next state with the latch promoted. -/
theorem stepRunsDecodedInstruction : Obligations.StepRunsDecodedInstruction := by
  unfold Obligations.StepRunsDecodedInstruction
  refine ⟨?instruction, fun s => ⟨fun t => step_of_cpuStep_next, fun e => step_of_cpuStep_fault,
    fun r => step_of_cpuStep_refused⟩⟩
  case instruction =>
    intro s i rest hfault hstopped hquiet hrun hdecode hi
    obtain ⟨t, ht⟩ := exec_next_of_wellFormed hi (s.withCpu { s.cpu with halted := false } s.cycles)
    refine ⟨t, ht, ?_⟩
    intro u
    have hcpu : cpuStep s = .next u := by
      rw [cpuStep_executes hfault hstopped hquiet hrun, fetch_of_decode hdecode, ht, promoteEi_of_next]
    have hcycles : u.cycles = t.cycles := by
      dsimp only [u]
      split <;> rfl
    exact ⟨hcpu, hcycles ▸ step_of_cpuStep_next hcpu⟩

/-- Settles O6: an instruction is stores through the bus and a new CPU, and a store keeps the frame total and the image. -/
theorem everyDefinedInstructionCompletes : Obligations.EveryDefinedInstructionCompletes := by
  unfold Obligations.EveryDefinedInstructionCompletes
  intro i s hi
  obtain ⟨vs, c, n, -, e, hn, hf, hfault⟩ := exec_completes i s hi
  exact ⟨_, e, hn, hf, hfault, applyStores_frameTotal ..,
    applyStores_keeps (P := fun u => u.cart.rom = s.cart.rom) (fun u a v hu => (sameImage_busWrite u a v).rom.trans hu)
      rfl ..⟩

/-! ### Stall and dispatch -/

theorem cpuStep_stalls {s : State} (hfault : s.cpu.fault = none) (hstopped : s.cpu.stopped = false)
    (hhalted : s.cpu.halted = true) (hfired : s.ie &&& s.io.ifr &&& 0x1F = 0) :
    cpuStep s = .next (s.withCpu s.cpu 4) := by
  have hnone : lowestIrq s.fired = none := (lowestIrq_none_iff _).mpr hfired
  rw [cpuStep, if_neg (by simp [hfault]), if_neg (by simp [hstopped]), hnone]
  exact if_pos hhalted

/-- Settles O33: nothing is pending, so the halted core stalls. -/
theorem haltStallsUntilPending : Obligations.HaltStallsUntilPending := by
  unfold Obligations.HaltStallsUntilPending
  intro s hfault hstopped hhalted hfired
  have hcpu := cpuStep_stalls hfault hstopped hhalted hfired
  exact ⟨hcpu, step_of_cpuStep_next hcpu⟩

theorem Irq.bit_lt (k : Irq) : k.bit < 5 := by
  cases k <;> decide

/-- The source selected is the least one whose bit is set (R334). -/
theorem lowestIrq_eq_some {v : Byte} {k : Irq} (hk : v.getLsbD k.bit = true)
    (hlow : ∀ j, j < k.bit → v.getLsbD j = false) : lowestIrq (v &&& 0x1F) = some k := by
  have hbit (j : Irq) : (v &&& 0x1F).getLsbD j.bit = v.getLsbD j.bit := by
    cases j <;> simp [Irq.bit]
  have hless (j : Irq) (hj : j.bit < k.bit) : v.getLsbD j.bit = false := hlow j.bit hj
  simp only [lowestIrq, List.find?_cons, hbit]
  cases k
  case vblank => rw [hk]
  case stat => rw [hless .vblank (by decide), hk]
  case timer => rw [hless .vblank (by decide), hless .stat (by decide), hk]
  case serial => rw [hless .vblank (by decide), hless .stat (by decide), hless .timer (by decide), hk]
  case joypad =>
    rw [hless .vblank (by decide), hless .stat (by decide), hless .timer (by decide), hless .serial (by decide), hk]

theorem getLsbD_irqMask (k : Irq) (i : Nat) : k.mask.getLsbD i = decide (i = k.bit) :=
  getLsbD_bitMask ⟨k.bit, by have := k.bit_lt; omega⟩ i

/-- Acknowledging a request clears its bit of IF and no other (R334). -/
theorem getLsbD_acknowledged (f : Byte) (k : Irq) {i : Nat} (hi : i < 8) :
    (f &&& ~~~k.mask).getLsbD i = (f.getLsbD i && decide (i ≠ k.bit)) := by
  rw [BitVec.getLsbD_and, BitVec.getLsbD_not, getLsbD_irqMask, decide_eq_true hi, Bool.true_and, decide_not]

/-- Settles O32: the source is the one `lowestIrq` selects, and the step is its dispatch, written out. -/
theorem dispatchTakesLowestPending : Obligations.DispatchTakesLowestPending := by
  unfold Obligations.DispatchTakesLowestPending
  intro s k hfault hstopped hime hk hlow
  refine ⟨s.io.ifr &&& ~~~k.mask, fun j hj => getLsbD_acknowledged s.io.ifr k hj, ?_⟩
  intro t
  have hcpu : cpuStep s = .next t := by
    rw [cpuStep_dispatches hfault hstopped hime (lowestIrq_eq_some hk hlow), dispatchInterrupt_eq]
    rfl
  exact ⟨hcpu, step_of_cpuStep_next hcpu⟩

/-! ### The EI latch -/

/-- An instruction other than DI leaves a latch that is set (R293, R294). -/
theorem exec_keeps_latch {i : Instr} {s t : State} (h : exec i s = .next t) (hs : s.cpu.imePending = true)
    (hi : i ≠ .di) : t.cpu.imePending = true := by
  obtain ⟨-, hlatch, -⟩ := controlFlagsChangeOnlyByTheirInstructions i s t h
  by_contra hclear
  obtain rfl | rfl := hlatch fun heq => hclear (heq.trans hs)
  · exact hi rfl
  · cases h
    exact hclear rfl

/-- The opcode of EI is fetched whatever bytes follow it. -/
theorem fetch_ei {s : State} (h : busRead s s.cpu.pc = 0xFB) : fetch s = .ei := by
  rw [fetch, h]
  rfl

/-- Settles O34: the instruction leaves the latch set, so the step promotes it, unless it is DI, which clears both. -/
theorem eiTakesEffectAfterNextInstruction : Obligations.EiTakesEffectAfterNextInstruction := by
  unfold Obligations.EiTakesEffectAfterNextInstruction
  refine ⟨fun s i rest hfault hstopped hhalted hquiet hlatch hdecode hi => ?next,
    fun s hfault hstopped hhalted hquiet hlatch hpc => ?ei⟩
  case next =>
    obtain ⟨t, ht⟩ := exec_next_of_wellFormed hi (s.withCpu { s.cpu with halted := false } s.cycles)
    rw [cpuStep_executes hfault hstopped hquiet (.inl hhalted), fetch_of_decode hdecode, ht, promoteEi_of_next, hlatch]
    refine ⟨_, rfl, ?_⟩
    by_cases hdi : i = .di
    · subst hdi
      cases ht
      exact ⟨rfl, rfl⟩
    · simp [exec_keeps_latch ht hlatch hdi, hdi]
  case ei =>
    rw [cpuStep_executes hfault hstopped hquiet (.inl hhalted), fetch_ei hpc, hlatch]
    exact ⟨_, rfl, rfl, rfl⟩

end Sys2Proof.Machine
end

section
/-! PROOFS of family 60_exceptions.md. The timer: DIV over any run of steps, TIMA increment by increment (R350 to R353). -/

namespace Sys2Proof.Machine

/-! ### DIV -/

/-- What one timer step does to DIV and its accumulator (R351). -/
theorem timerStep_div (c : Nat) (s : State) :
    (timerStep c s).timer.divAcc = (s.timer.divAcc + c) % 256 ∧
    (timerStep c s).io.div = s.io.div + BitVec.ofNat 8 ((s.timer.divAcc + c) / 256) := by
  obtain ⟨div, tima, ifr, acc, e, hdiv, -⟩ := timerStep_frame c s
  rw [e]
  exact ⟨rfl, hdiv⟩

/-- Over a run of timer steps DIV and its accumulator count the total (R353). -/
theorem timerSteps_div (cs : List Nat) (s : State) (h : s.timer.divAcc < 256) :
    (cs.foldl (fun u c => timerStep c u) s).timer.divAcc = (s.timer.divAcc + cs.sum) % 256 ∧
    (cs.foldl (fun u c => timerStep c u) s).io.div =
      s.io.div + BitVec.ofNat 8 ((s.timer.divAcc + cs.sum) / 256) := by
  induction cs generalizing s with
  | nil => simp [Nat.mod_eq_of_lt h, Nat.div_eq_of_lt h]
  | cons c cs ih =>
    obtain ⟨hacc, hdiv⟩ := timerStep_div c s
    obtain ⟨ihacc, ihdiv⟩ := ih (timerStep c s) (by omega)
    rw [List.foldl_cons, List.sum_cons, ihacc, ihdiv, hacc, hdiv, BitVec.add_assoc, ← BitVec.ofNat_add]
    exact ⟨by omega, congrArg (fun n => s.io.div + BitVec.ofNat 8 n) (by omega)⟩

/-- Settles O45: a run by induction, one step by `timerStep_frame`. -/
theorem divCountsCycles : Obligations.DivCountsCycles := by
  unfold Obligations.DivCountsCycles
  refine ⟨timerSteps_div, fun c s => ?step⟩
  case step =>
    obtain ⟨div, tima, ifr, acc, e, -, hifr, hacc⟩ := timerStep_frame c s
    rw [e]
    exact ⟨rfl, hifr, Nat.mod_lt _ (by decide), hacc⟩

/-! ### TIMA -/

theorem timaPeriod_eq (tac : Byte) : timaPeriod tac = [1024, 16, 64, 256].getD (tac.toNat % 4) 0 := by
  have h : tac.toNat % 4 < 4 := Nat.mod_lt _ (by decide)
  unfold timaPeriod
  interval_cases tac.toNat % 4 <;> rfl

/-- One increment of TIMA with bit 2 of IF, TMA being `tma` (R352). -/
def tick (tma : Byte) (p : Byte × Bool) : Byte × Bool := if p.1 = 0xFF then (tma, true) else (p.1 + 1, p.2)

/-- TIMA and the timer's request. -/
def timaAndRequest (s : State) : Byte × Bool := (s.io.tima, s.io.ifr.getLsbD 2)

theorem timaAndRequest_timaTick (s : State) : timaAndRequest (timaTick s) = tick s.io.tma (timaAndRequest s) := by
  unfold timaTick tick timaAndRequest
  by_cases h : s.io.tima = 0xFF#8
  · simp [h, IoFile.setReg, Irq.mask, Irq.bit]
  · simp [h, IoFile.setReg]

theorem timaTicks_succ (n : Nat) (s : State) : timaTicks (n + 1) s = timaTick (timaTicks n s) := by
  induction n generalizing s with
  | zero => rfl
  | succ n ih => exact ih (timaTick s)

theorem timaTicks_tma (n : Nat) (s : State) : (timaTicks n s).io.tma = s.io.tma := by
  obtain ⟨_, _, e, -⟩ := timaTicks_frame n s
  rw [e]

theorem timaAndRequest_timaTicks (n : Nat) (s : State) :
    timaAndRequest (timaTicks n s) = Nat.repeat (tick s.io.tma) n (timaAndRequest s) := by
  induction n with
  | zero => rfl
  | succ n ih =>
    rw [timaTicks_succ, timaAndRequest_timaTick, ih, timaTicks_tma]
    rfl

theorem timerStep_off {s : State} (h : s.io.tac.getLsbD 2 = false) (c : Nat) : timerStep c s = divStep c s := by
  rw [timerStep, timaStep]
  exact if_neg fun hon => Bool.false_ne_true (h.symm.trans hon)

theorem timerStep_on {s : State} (h : s.io.tac.getLsbD 2 = true) (c : Nat) : timerStep c s =
    timaTicks ((s.timer.timaAcc + c) / timaPeriod s.io.tac) { divStep c s with
      timer := ⟨(s.timer.divAcc + c) % 256, (s.timer.timaAcc + c) % timaPeriod s.io.tac⟩ } := by
  rw [timerStep, timaStep]
  exact if_pos h

/-- Settles O46: the number of increments is the quotient, and each is `tick`. -/
theorem timaCountsAndOverflows : Obligations.TimaCountsAndOverflows := by
  unfold Obligations.TimaCountsAndOverflows
  intro s c n t period tick' ticked
  refine ⟨fun hoff => ?off, fun hon hlo hhi => ?on⟩
  case off =>
    have ht : t = divStep c s := timerStep_off hoff c
    rw [ht]
    exact ⟨rfl, rfl, rfl⟩
  case on =>
    have hn : (s.timer.timaAcc + c) / period = n := Nat.div_eq_of_lt_le hlo hhi
    have ht : t = timaTicks n { divStep c s with
        timer := ⟨(s.timer.divAcc + c) % 256, (s.timer.timaAcc + c) % period⟩ } := by
      have hperiod : timaPeriod s.io.tac = period := timaPeriod_eq _
      rw [← hn, ← hperiod]
      exact timerStep_on hon c
    have hticked : timaAndRequest t = ticked := ht ▸ timaAndRequest_timaTicks ..
    obtain ⟨tima, ifr, e, hifr⟩ := timaTicks_frame n { divStep c s with
      timer := ⟨(s.timer.divAcc + c) % 256, (s.timer.timaAcc + c) % period⟩ }
    rw [e] at ht
    refine ⟨?acc, congrArg Prod.fst hticked, fun i hi => ?_⟩
    case acc =>
      rw [ht, ← hn, Nat.mul_comm]
      exact Nat.mod_add_div ..
    split
    next h2 => exact h2 ▸ congrArg Prod.snd hticked
    next h2 =>
      rw [ht]
      exact hifr i h2

end Sys2Proof.Machine
end

section
/-! PROOFS of family 60_exceptions.md. The place of the PPU in its frame: a transition leaves it where it was, so `PpuStep`
moves it by the cycles it is given (R370, R371, R377); VBlank begins where it passes the end of line 143 (R374). -/

namespace Sys2Proof.Machine

/-! ### One round of the loop -/

/-- `s` with `c` more cycles accumulated, as `PpuStep(c)` begins (R371). -/
def accumulated (c : Nat) (s : State) : State := { s with ppu := { s.ppu with acc := s.ppu.acc + c } }

theorem ppuTransition_lcdc (s : State) : (ppuTransition s).io.lcdc = s.io.lcdc := by
  rw [ppuTransition_frame s]

theorem ppuStep_on {s : State} (hon : s.io.lcdc.getLsbD 7 = true) (c : Nat) :
    ppuStep c s = ppuLoop ((s.ppu.acc + c) / 80 + 1) (accumulated c s) := if_pos hon

/-- Before the end of its mode the PPU only accumulates. -/
theorem ppuStep_of_lt {s : State} {c : Nat} (hon : s.io.lcdc.getLsbD 7 = true)
    (h : s.ppu.acc + c < s.ppu.mode.duration) : ppuStep c s = accumulated c s :=
  (ppuStep_on hon c).trans (if_pos h)

/-- At the end of its mode the PPU takes the transition, and goes on with what is left in the accumulator. -/
theorem ppuStep_of_le {s : State} {c : Nat} (hon : s.io.lcdc.getLsbD 7 = true)
    (h : s.ppu.mode.duration ≤ s.ppu.acc + c) : ppuStep c s = ppuStep 0 (ppuTransition (accumulated c s)) := by
  have hdur := s.ppu.mode.duration_ge
  have hacc : (ppuTransition (accumulated c s)).ppu.acc = s.ppu.acc + c - s.ppu.mode.duration := ppuTransition_acc _
  rw [ppuStep_on hon, ppuStep_on (by rwa [ppuTransition_lcdc])]
  exact (if_neg (not_lt.2 h)).trans (ppuLoop_enough (by rw [hacc]; omega) (by omega))

/-! ### The place in the frame -/

/-- The cycle of its line at which a mode begins (R370). -/
def PpuMode.start : PpuMode → Nat
  | .oamScan => 0
  | .drawing => 80
  | .hBlank => 252
  | .vBlank => 0

theorem PpuMode.start_add_duration_le (m : PpuMode) : m.start + m.duration ≤ 456 := by
  cases m <;> decide

theorem framePosition_eq (p : Ppu) : framePosition p = 456 * p.line + p.mode.start + p.acc := by
  unfold framePosition
  cases p.mode <;> rfl

theorem framePosition_lt {p : Ppu} (h : PpuPlaced p) : framePosition p < 70224 := by
  have hline := h.line_le
  have hacc := h.acc_lt
  have hend := p.mode.start_add_duration_le
  rw [framePosition_eq]
  omega

theorem framePosition_accumulated (c : Nat) (s : State) :
    framePosition (accumulated c s).ppu = framePosition s.ppu + c := by
  rw [framePosition_eq, framePosition_eq]
  exact (Nat.add_assoc ..).symm

/-- Mode `m` can be the PPU's on line `n`: mode 1 is that of the lines from 144 on. -/
structure OnLine (m : PpuMode) (n : Nat) : Prop where
  line_le : n ≤ 153
  vBlank_iff : m = .vBlank ↔ 144 ≤ n

/-- The mode after a transition from mode `m` of line `n` (R374). -/
def nextMode (m : PpuMode) (n : Nat) : PpuMode :=
  match m with
  | .oamScan => .drawing
  | .drawing => .hBlank
  | .hBlank => if n = 143 then .vBlank else .oamScan
  | .vBlank => if n < 153 then .vBlank else .oamScan

/-- The line after a transition from mode `m` of line `n` (R374). -/
def nextLine (m : PpuMode) (n : Nat) : Nat :=
  match m with
  | .oamScan => n
  | .drawing => n
  | .hBlank => n + 1
  | .vBlank => if n < 153 then n + 1 else 0

theorem ppuTransition_place (s : State) :
    (ppuTransition s).ppu.mode = nextMode s.ppu.mode s.ppu.line ∧
    (ppuTransition s).ppu.line = nextLine s.ppu.mode s.ppu.line := by
  cases hm : s.ppu.mode
  case oamScan => simp [ppuTransition_oamScan hm, modeSpent, nextMode, nextLine]
  case drawing => simp [ppuTransition_drawing hm, modeSpent, nextMode, nextLine]
  case hBlank =>
    by_cases hl : s.ppu.line = 143
    · simp [ppuTransition_hBlank_last hm hl, nextMode, nextLine, hl]
    · simp [ppuTransition_hBlank hm hl, nextMode, nextLine, hl]
  case vBlank =>
    by_cases hl : s.ppu.line < 153
    · simp [ppuTransition_vBlank hm hl, modeSpent, nextMode, nextLine, hl, hm]
    · simp [ppuTransition_vBlank_last hm (not_lt.1 hl), nextMode, nextLine, hl]

/-- The next mode begins where mode `m` of line `n` ends; the first line of the frame follows the last. -/
theorem next_start {m : PpuMode} {n : Nat} (h : OnLine m n) :
    (456 * nextLine m n + (nextMode m n).start) % 70224 = (456 * n + m.start + m.duration) % 70224 := by
  have hle := h.line_le
  cases m with
  | oamScan => rfl
  | drawing => rfl
  | hBlank => by_cases hn : n = 143 <;> simp [nextMode, nextLine, hn, PpuMode.start, PpuMode.duration, Nat.mul_succ]
  | vBlank =>
    by_cases hn : n < 153
    · simp [nextMode, nextLine, hn, PpuMode.start, PpuMode.duration, Nat.mul_succ]
    · obtain rfl : n = 153 := by omega
      rfl

theorem next_onLine {m : PpuMode} {n : Nat} (h : OnLine m n) : OnLine (nextMode m n) (nextLine m n) := by
  obtain ⟨hle, hiff⟩ := h
  cases m <;> simp only [reduceCtorEq, true_iff, false_iff, not_le] at hiff
  case oamScan => exact ⟨hle, iff_of_false nofun (not_le.2 hiff)⟩
  case drawing => exact ⟨hle, iff_of_false nofun (not_le.2 hiff)⟩
  case hBlank =>
    change OnLine (if n = 143 then .vBlank else .oamScan) (n + 1)
    split_ifs
    · exact ⟨by omega, iff_of_true rfl (by omega)⟩
    · exact ⟨by omega, iff_of_false nofun (by omega)⟩
  case vBlank =>
    change OnLine (if n < 153 then .vBlank else .oamScan) (if n < 153 then n + 1 else 0)
    split_ifs
    · exact ⟨by omega, iff_of_true rfl (by omega)⟩
    · exact ⟨by omega, iff_of_false nofun (by omega)⟩

/-- A transition ends one mode where the next begins, counted in frames. -/
theorem ppuTransition_position {s : State} (h : OnLine s.ppu.mode s.ppu.line)
    (hacc : s.ppu.mode.duration ≤ s.ppu.acc) :
    framePosition (ppuTransition s).ppu % 70224 = framePosition s.ppu % 70224 := by
  obtain ⟨hmode, hline⟩ := ppuTransition_place s
  have hstart := next_start h
  rw [framePosition_eq, framePosition_eq, hmode, hline, ppuTransition_acc]
  omega

theorem ppuTransition_onLine {s : State} (h : OnLine s.ppu.mode s.ppu.line) :
    OnLine (ppuTransition s).ppu.mode (ppuTransition s).ppu.line := by
  obtain ⟨hmode, hline⟩ := ppuTransition_place s
  rw [hmode, hline]
  exact next_onLine h

/-- With rounds enough the loop ends at the place it began at, counted in frames, and before the end of a mode. -/
theorem ppuLoop_position {n : Nat} {s : State} (h : OnLine s.ppu.mode s.ppu.line) (hn : s.ppu.acc < 80 * n) :
    framePosition (ppuLoop n s).ppu % 70224 = framePosition s.ppu % 70224 ∧ PpuPlaced (ppuLoop n s).ppu := by
  induction n generalizing s with
  | zero => omega
  | succ n ih =>
    unfold ppuLoop
    split
    next hacc => exact ⟨rfl, { h with acc_lt := hacc }⟩
    next hacc =>
      have hdur := s.ppu.mode.duration_ge
      obtain ⟨hpos, hplaced⟩ := ih (ppuTransition_onLine h) (by rw [ppuTransition_acc]; omega)
      exact ⟨hpos.trans (ppuTransition_position h (not_lt.1 hacc)), hplaced⟩

/-- Settles O48: the loop keeps the place its accumulated cycles give, and a place of the frame is below 70224. -/
theorem framePositionAdvancesByCycles : Obligations.FramePositionAdvancesByCycles := by
  unfold Obligations.FramePositionAdvancesByCycles
  intro s c hs hon
  have hline : OnLine (accumulated c s).ppu.mode (accumulated c s).ppu.line := { hs with }
  have hrounds : s.ppu.acc + c < 80 * ((s.ppu.acc + c) / 80 + 1) := by omega
  obtain ⟨hpos, hplaced⟩ := ppuLoop_position hline hrounds
  rw [framePosition_accumulated, Nat.mod_eq_of_lt (framePosition_lt hplaced)] at hpos
  rw [ppuStep_on hon]
  exact ⟨hpos, hplaced⟩

/-! ### VBlank -/

/-- A CPU step's cycles end at most one mode. -/
theorem ppuStep_of_le_24 {s : State} {c : Nat} (hs : PpuPlaced s.ppu) (hon : s.io.lcdc.getLsbD 7 = true) (hc : c ≤ 24) :
    ppuStep c s =
      if s.ppu.acc + c < s.ppu.mode.duration then accumulated c s else ppuTransition (accumulated c s) := by
  split
  next h => exact ppuStep_of_lt hon h
  next h =>
    have hleft : (ppuTransition (accumulated c s)).ppu.acc < 24 := by
      have hlt := hs.acc_lt
      rw [ppuTransition_acc]
      change s.ppu.acc + c - s.ppu.mode.duration < 24
      omega
    rw [ppuStep_of_le hon (not_lt.1 h)]
    refine ppuStep_of_lt (by rwa [ppuTransition_lcdc]) ?_
    have hdur := (ppuTransition (accumulated c s)).ppu.mode.duration_ge
    omega

/-- Cycle 65664 of the frame is the end of mode 0 of line 143. -/
theorem passes_65664_iff {p : Ppu} {c : Nat} (hp : PpuPlaced p) (hc : c ≤ 24) :
    framePosition p < 65664 ∧ 65664 ≤ framePosition p + c ↔
      p.mode.duration ≤ p.acc + c ∧ p.mode = .hBlank ∧ p.line = 143 := by
  obtain ⟨hle, hiff, hacc⟩ := hp
  rw [framePosition_eq]
  cases hm : p.mode <;>
    simp only [hm, PpuMode.duration, PpuMode.start, reduceCtorEq, true_iff, false_iff, iff_false, false_and, and_false, true_and]
      at hiff hacc ⊢
  all_goals omega

/-- Only the transition from mode 0 of line 143 requests VBlank and sets `frame_ready` (R374). -/
theorem ppuTransition_keeps_vblank {s : State} (h : ¬ (s.ppu.mode = .hBlank ∧ s.ppu.line = 143)) :
    (ppuTransition s).io.ifr.getLsbD 0 = s.io.ifr.getLsbD 0 ∧ (ppuTransition s).ppu.frameReady = s.ppu.frameReady := by
  cases hm : s.ppu.mode
  case oamScan =>
    rw [ppuTransition_oamScan hm]
    exact ⟨enterMode_vblank .., by rw [enterMode_ppu]; rfl⟩
  case drawing =>
    rw [ppuTransition_drawing hm]
    exact ⟨enterMode_vblank .., by rw [enterMode_ppu]; rfl⟩
  case hBlank =>
    rw [ppuTransition_hBlank hm fun hl => h ⟨hm, hl⟩]
    exact ⟨(enterMode_vblank ..).trans (setLine_vblank ..), by rw [enterMode_ppu]; exact setLine_frameReady ..⟩
  case vBlank =>
    by_cases hl : s.ppu.line < 153
    · rw [ppuTransition_vBlank hm hl]
      exact ⟨setLine_vblank .., setLine_frameReady ..⟩
    · rw [ppuTransition_vBlank_last hm (not_lt.1 hl)]
      exact ⟨(enterMode_vblank ..).trans (setLine_vblank ..), by rw [enterMode_ppu]; exact setLine_frameReady ..⟩

/-- Settles O49: the step is at most one transition, and only the one at the end of line 143 requests VBlank. -/
theorem vBlankAtLine144 : Obligations.VBlankAtLine144 := by
  unfold Obligations.VBlankAtLine144
  intro s c hs hon hc t
  have ht : t = _ := ppuStep_of_le_24 hs hon hc
  simp only [passes_65664_iff hs hc]
  split
  next h =>
    obtain ⟨hacc, hm, hl⟩ := h
    rw [if_neg (not_lt.2 hacc), ppuTransition_hBlank_last (s := accumulated c s) hm hl] at ht
    rw [ht]
    refine ⟨?_, ?_, ?_, ?_, rfl⟩ <;> simp [IoFile.setReg, Irq.mask, Irq.bit]
  next h =>
    split at ht <;> rw [ht]
    · exact ⟨rfl, rfl⟩
    next hacc => exact ppuTransition_keeps_vblank (s := accumulated c s) fun hplace => h ⟨not_lt.1 hacc, hplace⟩

end Sys2Proof.Machine
end

section
/-! PROOFS of family 60_exceptions.md. STAT requests: what setting a line and entering a mode write, and the request of each
transition (R373 to R376). -/

namespace Sys2Proof.Machine

/-- IF with request `k` added where `b` holds (R331). -/
def withRequest (k : Irq) (b : Bool) (f : Byte) : Byte := if b then f ||| k.mask else f

theorem getLsbD_withRequest (k : Irq) (b : Bool) (f : Byte) (i : Nat) :
    (withRequest k b f).getLsbD i = (f.getLsbD i || (i == k.bit && b)) := by
  cases b
  · simp [withRequest]
  · rw [withRequest, if_pos rfl, BitVec.getLsbD_or, getLsbD_irqMask, Bool.and_true]
    rfl

/-- STAT with its coincidence bit `hit` (R376). -/
def withCoincidence (hit : Bool) (stat : Byte) : Byte := if hit then stat ||| 0x04 else stat &&& 0xFB

theorem getLsbD_withCoincidence (hit : Bool) (stat : Byte) {i : Nat} (hi : i < 8) :
    (withCoincidence hit stat).getLsbD i = if i = 2 then hit else stat.getLsbD i := by
  cases hit <;> interval_cases i <;> simp [withCoincidence]

/-- The line `n` is LYC. -/
def coincides (n : Nat) (s : State) : Bool := decide (BitVec.ofNat 8 n = s.io.lyc)

/-- Setting the line to `n` is a new coincidence that STAT asks to request (R376). -/
def newCoincidence (n : Nat) (s : State) : Bool := coincides n s && !s.ppu.lycLatch && s.io.stat.getLsbD 6

/-- `LycCheck()` written out (R376). -/
theorem lycCheck_eq (s : State) : lycCheck s = { s with
    io := { s.io with
      stat := withCoincidence (decide (s.io.ly = s.io.lyc)) s.io.stat
      ifr := withRequest .stat (decide (s.io.ly = s.io.lyc) && !s.ppu.lycLatch && s.io.stat.getLsbD 6) s.io.ifr }
    ppu := { s.ppu with lycLatch := decide (s.io.ly = s.io.lyc) } } := by
  by_cases hhit : s.io.ly = s.io.lyc
  · have hbit6 : (s.io.stat ||| 0x04).getLsbD 6 = s.io.stat.getLsbD 6 := by simp
    rw [lycCheck, if_pos hhit, decide_eq_true hhit]
    cases hlatch : s.ppu.lycLatch
    · change (if (s.io.stat ||| 0x04).getLsbD 6 then _ else _) = _
      rw [hbit6]
      cases s.io.stat.getLsbD 6 <;> rfl
    · have hself : { s.ppu with lycLatch := true } = s.ppu := by rw [← hlatch]
      rw [hself]
      rfl
  · rw [lycCheck, if_neg hhit, decide_eq_false hhit]
    rfl

/-- `line <- n; WriteLY()` written out (R375, R376). -/
theorem setLine_eq (n : Nat) (s : State) : setLine n s = { s with
    io := { s.io with
      ly := BitVec.ofNat 8 n
      stat := withCoincidence (coincides n s) s.io.stat
      ifr := withRequest .stat (newCoincidence n s) s.io.ifr }
    ppu := { s.ppu with line := n, lycLatch := coincides n s } } := lycCheck_eq _

/-- STAT with the number of mode `m` in its mode bits (R373). -/
def withMode (m : PpuMode) (stat : Byte) : Byte := (stat &&& 0xFC) ||| m.bits

theorem getLsbD_withMode (m : PpuMode) (stat : Byte) {i : Nat} (hi : i < 8) :
    (withMode m stat).getLsbD i = if i < 2 then m.bits.getLsbD i else stat.getLsbD i := by
  cases m <;> interval_cases i <;> simp [withMode, PpuMode.bits]

/-- The mode bits do not enable a source. -/
theorem statEnable_congr (m : PpuMode) {v w : Byte} (h : ∀ i, 3 ≤ i → i ≤ 5 → v.getLsbD i = w.getLsbD i) :
    m.statEnable v = m.statEnable w := by
  cases m
  case drawing => rfl
  all_goals exact h _ (by decide) (by decide)

/-- `EnterMode(m)` written out (R373). -/
theorem enterMode_eq (m : PpuMode) (s : State) : enterMode m s = { s with
    io := { s.io with
      stat := withMode m s.io.stat
      ifr := withRequest .stat (m.statEnable s.io.stat) s.io.ifr }
    ppu := { s.ppu with mode := m } } := by
  have henable : m.statEnable (withMode m s.io.stat) = m.statEnable s.io.stat :=
    statEnable_congr m fun i h3 h5 => (getLsbD_withMode m _ (by omega)).trans (if_neg (by omega))
  unfold enterMode
  change (if m.statEnable (withMode m s.io.stat) then _ else _) = _
  rw [henable]
  cases m.statEnable s.io.stat <;> rfl

/-! ### The request of a transition -/

/-- Entering a mode requests where its source is enabled. -/
theorem enterMode_request (m : PpuMode) (s : State) :
    (enterMode m s).io.ifr.getLsbD 1 = (s.io.ifr.getLsbD 1 || m.statEnable s.io.stat) := by
  rw [enterMode_eq]
  exact getLsbD_withRequest .stat _ _ 1

theorem setLine_request (n : Nat) (s : State) :
    (setLine n s).io.ifr.getLsbD 1 = (s.io.ifr.getLsbD 1 || newCoincidence n s) := by
  rw [setLine_eq]
  exact getLsbD_withRequest .stat _ _ 1

/-- A new line and a new mode request where either does: the coincidence bit enables no mode's source. -/
theorem enterMode_setLine_request (m : PpuMode) (n : Nat) (s : State) :
    (enterMode m (setLine n s)).io.ifr.getLsbD 1 =
      (s.io.ifr.getLsbD 1 || (newCoincidence n s || m.statEnable s.io.stat)) := by
  have henable : m.statEnable (setLine n s).io.stat = m.statEnable s.io.stat := by
    rw [setLine_eq]
    exact statEnable_congr m fun i h3 h5 => (getLsbD_withCoincidence _ _ (by omega)).trans (if_neg (by omega))
  rw [enterMode_request, setLine_request, henable, Bool.or_assoc]

/-- Settles O50: both operations written out, and the transitions by the mode entered and the line set. -/
theorem lycCheckAndLatch : Obligations.LycCheckAndLatch := by
  unfold Obligations.LycCheckAndLatch
  refine ⟨fun s n => ?setLine, fun s m number enabled hm => ?enterMode, fun s => ?transition⟩
  case setLine =>
    rw [setLine_eq]
    refine ⟨rfl, rfl, rfl, fun i hi => getLsbD_withCoincidence _ _ hi, fun i _ => ?_, rfl⟩
    rw [Bool.and_assoc, Bool.and_assoc, ← Bool.and_assoc (decide _)]
    exact getLsbD_withRequest .stat _ _ i
  case enterMode =>
    obtain ⟨rfl, rfl⟩ : number = m.bits.toNat ∧ enabled = m.statEnable s.io.stat := by
      simp only [List.mem_cons, Prod.mk.injEq, List.not_mem_nil, or_false] at hm
      obtain ⟨rfl, rfl, rfl⟩ | ⟨rfl, rfl, rfl⟩ | ⟨rfl, rfl, rfl⟩ | ⟨rfl, rfl, rfl⟩ := hm <;> exact ⟨rfl, rfl⟩
    rw [enterMode_eq]
    exact ⟨fun i hi => getLsbD_withMode m _ hi, fun i _ => getLsbD_withRequest .stat _ _ i, rfl⟩
  case transition =>
    intro newHit
    cases hm : s.ppu.mode
    case oamScan =>
      rw [ppuTransition_oamScan hm]
      exact enterMode_request ..
    case drawing =>
      rw [ppuTransition_drawing hm]
      exact enterMode_request ..
    case hBlank =>
      by_cases hl : s.ppu.line = 143
      · rw [ppuTransition_hBlank_last hm hl, hl]
        refine (getLsbD_withRequest .vblank true _ 1).trans ?_
        rw [enterMode_setLine_request]
        exact Bool.or_false _
      · rw [ppuTransition_hBlank hm hl]
        dsimp only
        rw [if_neg hl]
        exact enterMode_setLine_request ..
    case vBlank =>
      by_cases hl : s.ppu.line < 153
      · rw [ppuTransition_vBlank hm hl]
        dsimp only
        rw [if_pos hl]
        exact setLine_request ..
      · rw [ppuTransition_vBlank_last hm (not_lt.1 hl)]
        dsimp only
        rw [if_neg hl]
        exact enterMode_setLine_request ..

end Sys2Proof.Machine
end

section
/-! PROOFS of family 60_exceptions.md. Sprites: which are considered and in what order (R382, R383), and which one a column
shows (R381, R384). -/

namespace Sys2Proof.Machine

/-! ### Candidates -/

theorem spriteCandidates_eq (s : State) (ly : Nat) :
    spriteCandidates s ly =
      (((List.range 40).filter (fun i => (spriteAt s i).onLine (spriteHeight s) ly)).take 10).map (spriteAt s) := by
  rw [spriteCandidates, List.filter_map, ← List.map_take]
  rfl

theorem spriteCandidates_length_le (s : State) (ly : Nat) : (spriteCandidates s ly).length ≤ 10 :=
  List.length_take_le ..

/-- A candidate's index is its place in OAM, so no two candidates share one. -/
theorem spriteCandidates_index_nodup (s : State) (ly : Nat) : ((spriteCandidates s ly).map Sprite.index).Nodup := by
  rw [spriteCandidates_eq, List.map_map]
  refine List.Nodup.map (f := Sprite.index ∘ spriteAt s) (fun i j h => h) ?_
  exact (List.nodup_range.filter _).sublist (List.take_sublist ..)

/-! ### Order -/

/-- `p` is drawn over `q` (R383). -/
def Precedes (p q : Sprite) : Prop := p.x.toNat < q.x.toNat ∨ (p.x = q.x ∧ p.index < q.index)

theorem insertSprite_perm (p : Sprite) (l : List Sprite) : (insertSprite p l).Perm (p :: l) := by
  induction l with
  | nil => exact .refl _
  | cons q l ih =>
    rw [insertSprite]
    split
    · exact .refl _
    · exact (ih.cons q).trans (.swap p q l)

theorem spriteOrder_perm (l : List Sprite) : (spriteOrder l).Perm l := by
  induction l with
  | nil => exact .refl _
  | cons p l ih => exact (insertSprite_perm p _).trans (ih.cons p)

theorem Precedes.trans {p q r : Sprite} (h : Precedes p q) (h' : Precedes q r) : Precedes p r := by
  unfold Precedes at *
  simp only [BitVec.toNat_eq] at *
  omega

/-- Insertion of a sprite with an index of its own keeps the order. -/
theorem pairwise_insertSprite {p : Sprite} {l : List Sprite} (hl : l.Pairwise Precedes)
    (hp : ∀ q ∈ l, q.index ≠ p.index) : (insertSprite p l).Pairwise Precedes := by
  induction l with
  | nil => exact List.pairwise_singleton ..
  | cons q l ih =>
    obtain ⟨hq, hl'⟩ := List.pairwise_cons.1 hl
    rw [insertSprite]
    split
    next h =>
      have hpq : Precedes p q := by
        rwa [Precedes, BitVec.toNat_eq]
      exact List.pairwise_cons.2 ⟨List.forall_mem_cons.2 ⟨hpq, fun r hr => hpq.trans (hq r hr)⟩, hl⟩
    next h =>
      have hqp : Precedes q p := by
        have hne := hp q (List.mem_cons_self ..)
        rw [Precedes, BitVec.toNat_eq]
        omega
      refine List.pairwise_cons.2 ⟨fun r hr => ?_, ih hl' fun r hr => hp r (List.mem_cons_of_mem _ hr)⟩
      rcases List.mem_cons.1 ((insertSprite_perm p l).mem_iff.1 hr) with rfl | hr
      · exact hqp
      · exact hq r hr

theorem pairwise_spriteOrder {l : List Sprite} (h : (l.map Sprite.index).Nodup) :
    (spriteOrder l).Pairwise Precedes := by
  induction l with
  | nil => exact .nil
  | cons p l ih =>
    obtain ⟨hp, hl⟩ := List.nodup_cons.1 h
    refine pairwise_insertSprite (ih hl) fun q hq heq => hp ?_
    exact List.mem_map.2 ⟨q, (spriteOrder_perm l).mem_iff.1 hq, heq⟩

/-- Settles O52: the candidates by their indices, the order an insertion sort by x, then index. -/
theorem spriteSelectionAndOrder : Obligations.SpriteSelectionAndOrder := by
  unfold Obligations.SpriteSelectionAndOrder
  intro s ly h
  refine ⟨?_, spriteCandidates_length_le s ly, spriteOrder_perm _,
    pairwise_spriteOrder (spriteCandidates_index_nodup s ly)⟩
  rw [spriteCandidates_eq]
  simp only [Sprite.onLine, Bool.decide_and]
  rfl

/-! ### Drawing, seen at one column -/

/-- The pixel `p` with a sprite's shade over it, where the sprite has one. -/
def Pixel.under (p : Pixel) (shade : Option (BitVec 2)) : Pixel := { p with shade := shade.getD p.shade }

/-- The colour index of pixel column `px` of a sprite on line `ly` (R384). -/
def spriteIndexAt (s : State) (ly : Nat) (sp : Sprite) (px : Nat) : BitVec 2 :=
  let h := spriteHeight s
  let line := ly + 16 - sp.y.toNat
  let t := if h = 16 then sp.tile &&& 0xFE else sp.tile
  tilePixel s (16 * t.toNat) (if sp.flags.getLsbD 6 then h - 1 - line else line) (if sp.flags.getLsbD 5 then 7 - px else px)

/-- The palette of a sprite (R384). -/
def spritePalette (s : State) (sp : Sprite) : Byte := if sp.flags.getLsbD 4 then s.io.obp1 else s.io.obp0

theorem drawSpritePixel_eq (s : State) (ly : Nat) (sp : Sprite) (row : List Pixel) (px : Nat) :
    drawSpritePixel s ly sp row px =
      if spriteIndexAt s ly sp px = 0#2 then row
      else if sp.x.toNat + px < 8 ∨ 168 ≤ sp.x.toNat + px then row
      else if sp.flags.getLsbD 7 ∧ (row.getD (sp.x.toNat + px - 8) default).bgi ≠ 0#2 then row
      else row.modify (sp.x.toNat + px - 8) (fun p =>
        { p with shade := shadeOf (spritePalette s sp) (spriteIndexAt s ly sp px) }) := rfl

theorem spriteShade_eq (s : State) (ly : Nat) (row : List Pixel) (x : Nat) (sp : Sprite) :
    spriteShade s ly row x sp =
      if sp.x.toNat ≤ x + 8 ∧ x + 8 < sp.x.toNat + 8 ∧ spriteIndexAt s ly sp (x + 8 - sp.x.toNat) ≠ 0#2 ∧
          (sp.flags.getLsbD 7 = false ∨ (row.getD x default).bgi = 0#2) then
        some (shadeOf (spritePalette s sp) (spriteIndexAt s ly sp (x + 8 - sp.x.toNat)))
      else none := rfl

/-- Whether and how a sprite shows at a column depends on the row by the background index there. -/
theorem spriteShade_congr {s : State} {ly : Nat} {row row' : List Pixel} {x : Nat} (sp : Sprite)
    (h : (row.getD x default).bgi = (row'.getD x default).bgi) : spriteShade s ly row x sp = spriteShade s ly row' x sp := by
  rw [spriteShade_eq, spriteShade_eq, h]

/-- A column that the sprite does not cover shows nothing of it. -/
theorem spriteShade_of_not_covered {s : State} {ly : Nat} {row : List Pixel} {x : Nat} {sp : Sprite}
    (h : ¬ (sp.x.toNat ≤ x + 8 ∧ x + 8 < sp.x.toNat + 8)) : spriteShade s ly row x sp = none := by
  rw [spriteShade_eq, if_neg (by tauto)]

theorem getD_modify (row : List Pixel) (f : Pixel → Pixel) (i x : Nat) (hx : x < row.length) :
    (row.modify i f).getD x default = if i = x then f (row.getD x default) else row.getD x default := by
  simp only [List.getD_eq_getElem?_getD, List.getElem?_modify, List.getElem?_eq_getElem hx]
  split <;> rfl

/-- A pixel column of a sprite changes no column of the line but the one it falls on (R384). -/
theorem drawSpritePixel_getD_of_ne (s : State) (ly : Nat) (sp : Sprite) {row : List Pixel} {px x : Nat}
    (hx : x < row.length) (hcol : x + 8 ≠ sp.x.toNat + px) :
    (drawSpritePixel s ly sp row px).getD x default = row.getD x default := by
  rw [drawSpritePixel_eq]
  split_ifs
  case neg => rw [getD_modify _ _ _ _ hx, if_neg (by omega)]
  all_goals rfl

/-- The column of the line it falls on gets its shade, where the sprite shows there (R384). -/
theorem drawSpritePixel_getD_of_eq (s : State) (ly : Nat) (sp : Sprite) {row : List Pixel} {px x : Nat}
    (hx : x < row.length) (hscreen : x < 160) (hpx : px < 8) (hcol : x + 8 = sp.x.toNat + px) :
    (drawSpritePixel s ly sp row px).getD x default = (row.getD x default).under (spriteShade s ly row x sp) := by
  rw [drawSpritePixel_eq, spriteShade_eq, show sp.x.toNat + px - 8 = x by omega,
    show x + 8 - sp.x.toNat = px by omega]
  by_cases hidx : spriteIndexAt s ly sp px = 0#2
  · rw [if_pos hidx, if_neg fun ⟨_, _, hne, _⟩ => hne hidx]
    rfl
  rw [if_neg hidx, if_neg (by omega)]
  have hbehind : (sp.flags.getLsbD 7 = true ∧ (row.getD x default).bgi ≠ 0#2) ↔
      ¬ (sp.flags.getLsbD 7 = false ∨ (row.getD x default).bgi = 0#2) := by simp
  by_cases hfront : sp.flags.getLsbD 7 = false ∨ (row.getD x default).bgi = 0#2
  · rw [if_neg (not_not.2 hfront ∘ hbehind.1), getD_modify _ _ _ _ hx, if_pos rfl,
      if_pos ⟨by omega, by omega, hidx, hfront⟩]
    rfl
  · rw [if_pos (hbehind.2 hfront), if_neg fun ⟨_, _, _, h⟩ => hfront h]
    rfl

/-- The columns of the sprite up to the `n`-th, seen at column `x`: at most one of them falls there. -/
theorem drawColumns_getD (s : State) (ly : Nat) (sp : Sprite) {row : List Pixel} {n x : Nat}
    (hrow : row.length = 160) (hx : x < 160) (hn : n ≤ 8) :
    ((List.range n).foldl (drawSpritePixel s ly sp) row).getD x default =
      if sp.x.toNat ≤ x + 8 ∧ x + 8 < sp.x.toNat + n then (row.getD x default).under (spriteShade s ly row x sp)
      else row.getD x default := by
  induction n with
  | zero => rw [if_neg (by omega)]; rfl
  | succ n ih =>
    have hlength : ((List.range n).foldl (drawSpritePixel s ly sp) row).length = 160 :=
      List.foldlRecOn (motive := fun r : List Pixel => r.length = 160) _ _ hrow
        fun _ h px _ => (drawSpritePixel_length s ly sp _ px).trans h
    have hdrawn := ih (by omega)
    rw [List.range_succ, List.foldl_append, List.foldl_cons, List.foldl_nil]
    by_cases hcol : x + 8 = sp.x.toNat + n
    · rw [if_neg (by omega)] at hdrawn
      rw [drawSpritePixel_getD_of_eq s ly sp (by omega) hx (by omega) hcol, if_pos (by omega), hdrawn,
        spriteShade_congr sp (congrArg Pixel.bgi hdrawn)]
    · rw [drawSpritePixel_getD_of_ne s ly sp (by omega) hcol, hdrawn]
      exact if_congr (by omega) rfl rfl

theorem drawSprite_getD (s : State) (ly : Nat) (sp : Sprite) {row : List Pixel} {x : Nat}
    (hrow : row.length = 160) (hx : x < 160) :
    (drawSprite s ly sp row).getD x default = (row.getD x default).under (spriteShade s ly row x sp) := by
  rw [drawSprite, drawColumns_getD s ly sp hrow hx le_rfl]
  split
  · rfl
  next h => rw [spriteShade_of_not_covered h]; rfl

/-- Drawn last to first, the first sprite of the order that shows is the one on top (R383). -/
theorem drawSprites_getD (s : State) (ly : Nat) (order : List Sprite) {row : List Pixel} {x : Nat}
    (hrow : row.length = 160) (hx : x < 160) :
    (order.foldr (drawSprite s ly) row).getD x default =
      (row.getD x default).under (order.findSome? (spriteShade s ly row x)) := by
  induction order with
  | nil => rfl
  | cons sp order ih =>
    have hlength : (order.foldr (drawSprite s ly) row).length = 160 :=
      List.foldrRecOn (motive := fun r : List Pixel => r.length = 160) _ _ hrow
        fun _ h sp _ => (drawSprite_length s ly sp _).trans h
    have hshade : spriteShade s ly (order.foldr (drawSprite s ly) row) x sp = spriteShade s ly row x sp :=
      spriteShade_congr sp ((congrArg Pixel.bgi ih).trans rfl)
    rw [List.foldr_cons, drawSprite_getD s ly sp hlength hx, hshade, ih, List.findSome?_cons]
    cases spriteShade s ly row x sp <;> rfl

/-- Settles O53: the pass, seen at one column. -/
theorem spritePixelWinner : Obligations.SpritePixelWinner := by
  unfold Obligations.SpritePixelWinner
  intro s ly row x hrow hx
  rw [spritePass]
  split
  · rw [drawSprites_getD s ly _ hrow hx]
    exact ⟨rfl, rfl⟩
  · exact ⟨rfl, rfl⟩

end Sys2Proof.Machine
end

section
/-! PROOFS of family 60_exceptions.md. Rendering: the background and window pixels by the bus addresses of their rules, the
rows a rendered line leaves, the bytes of the framebuffer (R370, R371, R378 to R380, R57, R58). -/

namespace Sys2Proof.Machine

/-! ### Video RAM by bus address -/

theorem busRead_vram (s : State) {a : Word} {i : Nat} (ha : a.toNat = 0x8000 + i) (hi : i < 0x2000) :
    busRead s a = vramAt s i := by
  have hl : locate a = .vram i := by
    grind [locate]
  rw [busRead, hl]
  rfl

/-- The shade of an index is the two bits of the palette at twice the index (R378). -/
theorem shadeOf_eq (pal : Byte) (idx : BitVec 2) : shadeOf pal idx = BitVec.ofNat 2 (pal.toNat / 4 ^ idx.toNat) := by
  apply BitVec.eq_of_toNat_eq
  rw [shadeOf, BitVec.toNat_setWidth, BitVec.toNat_ushiftRight, BitVec.toNat_ofNat, Nat.shiftRight_eq_div_pow, Nat.pow_mul]

/-- Two bits put together as a number. -/
theorem ofBool_append_ofBool (hi lo : Bool) :
    BitVec.ofBool hi ++ BitVec.ofBool lo = BitVec.ofNat 2 (2 * hi.toNat + lo.toNat) := by
  cases hi <;> cases lo <;> rfl

theorem bgTileBase_lt (s : State) (t : Byte) : bgTileBase s t < 0x1800 := by
  have ht : t.toNat < 256 := t.isLt
  unfold bgTileBase
  split_ifs <;> omega

theorem toNat_zext16_shiftLeft (t : Byte) : (zext16 t <<< 4).toNat = 16 * t.toNat := by
  have ht : t.toNat < 256 := t.isLt
  rw [zext16, BitVec.toNat_shiftLeft, BitVec.toNat_setWidth, Nat.shiftLeft_eq]
  omega

theorem toNat_sext16_shiftLeft (t : Byte) :
    (sext16 t <<< 4).toNat = if t.toNat < 128 then 16 * t.toNat else 0x10000 + 16 * t.toNat - 0x1000 := by
  have ht : t.toNat < 256 := t.isLt
  rw [sext16, BitVec.toNat_shiftLeft, BitVec.toNat_signExtend, BitVec.toNat_setWidth, BitVec.msb_eq_decide,
    Nat.shiftLeft_eq]
  by_cases hsign : t.toNat < 128
  · rw [if_pos hsign, if_neg (by simpa using hsign)]
    omega
  · rw [if_neg hsign, if_pos (by simpa using hsign)]
    omega

/-- The tile's bus address is that of its place in VRAM (R378). -/
theorem toNat_bgTileAddress (s : State) (t : Byte) :
    (bgTileAddress s.io.lcdc t).toNat = 0x8000 + bgTileBase s t := by
  have ht : t.toNat < 256 := t.isLt
  unfold bgTileAddress bgTileBase
  split
  · rw [BitVec.toNat_add, toNat_zext16_shiftLeft, BitVec.toNat_ofNat]
    omega
  · rw [BitVec.toNat_add, toNat_sext16_shiftLeft, BitVec.toNat_ofNat]
    split <;> omega

theorem tileIndexAt_eq (s : State) {a : Word} {base : Nat} (ha : a.toNat = 0x8000 + base) (hbase : base < 0x1800)
    {row : Nat} (hrow : row < 8) (col : Nat) : tileIndexAt s a row col = tilePixel s base row col := by
  have hlo : busRead s (a + BitVec.ofNat 16 (2 * row)) = vramAt s (base + 2 * row) :=
    busRead_vram s (by rw [BitVec.toNat_add, toNat_ofNat_word (by omega)]; omega) (by omega)
  have hhi : busRead s (a + BitVec.ofNat 16 (2 * row + 1)) = vramAt s (base + 2 * row + 1) :=
    busRead_vram s (by rw [BitVec.toNat_add, toNat_ofNat_word (by omega)]; omega) (by omega)
  rw [tileIndexAt, tilePixel, hlo, hhi, ofBool_append_ofBool]

/-- A pixel with this colour index, through BGP (R379). -/
def shownPixel (s : State) (idx : BitVec 2) : Pixel := ⟨idx, shadeOf s.io.bgp idx⟩

/-- The bus address of the tile map a LCDC bit selects (R40). -/
def mapAddress (bit : Bool) : Word := if bit then 0x9C00 else 0x9800

/-- The index of a tile map's pixel is the one at the bus addresses of its rule (R379, R380). -/
theorem mapPixel_eq (s : State) (bit : Bool) {px py : Nat} (hx : px < 256) (hy : py < 256) :
    mapPixel s (mapBase bit) px py = shownPixel s (mapIndexAt s (mapAddress bit) px py) := by
  have hmap : (mapAddress bit).toNat = 0x8000 + mapBase bit ∧ mapBase bit ≤ 0x1C00 := by
    cases bit <;> decide
  have htile : busRead s (mapAddress bit + BitVec.ofNat 16 (32 * (py / 8) + px / 8)) =
      vramAt s (mapBase bit + 32 * (py / 8) + px / 8) :=
    busRead_vram s (by rw [BitVec.toNat_add, toNat_ofNat_word (by omega)]; omega) (by omega)
  rw [mapIndexAt, htile, tileIndexAt_eq s (toNat_bgTileAddress s _) (bgTileBase_lt s _) (Nat.mod_lt _ (by decide))]
  rfl

/-! ### The passes, seen at one column -/

theorem backgroundPass_getD (s : State) (ly : Nat) {x : Nat} (hx : x < 160) :
    (backgroundPass s ly).getD x default =
      if s.io.lcdc.getLsbD 0 then
        shownPixel s (mapIndexAt s (mapAddress (s.io.lcdc.getLsbD 3)) ((x + s.io.scx.toNat) % 256)
          ((ly + s.io.scy.toNat) % 256))
      else shownPixel s 0 := by
  unfold backgroundPass
  split
  · rw [List.getD_eq_getElem?_getD, List.getElem?_map, List.getElem?_range hx]
    exact mapPixel_eq s _ (Nat.mod_lt _ (by decide)) (Nat.mod_lt _ (by decide))
  · rw [List.getD_eq_getElem?_getD, List.getElem?_replicate, if_pos hx]
    rfl

theorem windowPass_getD (s : State) (ly : Nat) {row : List Pixel} {x : Nat} (hrow : row.length = 160) (hx : x < 160) :
    (windowPass s ly row).getD x default =
      if windowOn s ly ∧ s.io.wx.toNat ≤ x + 7 then
        shownPixel s (mapIndexAt s (mapAddress (s.io.lcdc.getLsbD 6)) (x + 7 - s.io.wx.toNat) s.ppu.winLine.toNat)
      else row.getD x default := by
  unfold windowPass
  by_cases hon : windowOn s ly = true
  · have hx' : x < row.length := by omega
    rw [if_pos hon, List.getD_eq_getElem?_getD, List.getElem?_mapIdx, List.getElem?_eq_getElem hx',
      mapPixel_eq s _ (by omega) s.ppu.winLine.isLt, List.getD_eq_getElem?_getD, List.getElem?_eq_getElem hx']
    simp only [hon, true_and]
    rfl
  · rw [if_neg hon, if_neg fun ⟨h, _⟩ => hon h]

/-! ### The rendered line -/

theorem windowOn_iff (s : State) (ly : Nat) :
    windowOn s ly = true ↔ s.io.lcdc.getLsbD 5 = true ∧ s.io.wy.toNat ≤ ly := by
  rw [windowOn, Bool.and_eq_true, decide_eq_true_iff]

theorem windowDrawn_iff (s : State) (ly : Nat) :
    windowDrawn s ly = true ↔ (s.io.lcdc.getLsbD 5 = true ∧ s.io.wy.toNat ≤ ly) ∧ s.io.wx.toNat < 167 := by
  rw [windowDrawn, Bool.and_eq_true, windowOn_iff, decide_eq_true_iff]

/-- The four bytes of pixel `(x, y)` in the framebuffer (R57). -/
theorem framebufferBytes_pixel (s : State) {y x k : Nat} (hy : y < 144) (hx : x < 160) (hk : k < 4) :
    (framebufferBytes s)[(y * 160 + x) * 4 + k]? = some (pixelByte (framebufferAt s y x) k) := by
  rw [framebufferBytes_getElem? s (by omega), framebufferByte_pixel s hx hk]

/-- Settles O54: the passes at one column, what a rendered line leaves, and the rounds of the PPU's loop. -/
theorem backgroundAndWindowPixels : Obligations.BackgroundAndWindowPixels := by
  unfold Obligations.BackgroundAndWindowPixels
  refine ⟨fun s ly x hx hly => ?line, fun s => ⟨fun hm => ?drawing, ppuTransition_buffers⟩, fun s c hon => ?step⟩
  case line =>
    intro shown window
    have hshown (idx : BitVec 2) : shown idx = shownPixel s idx := by
      rw [shownPixel, shadeOf_eq]
    refine ⟨?pixel, ?counter, ?rows, ?kept, ?bytes⟩
    case pixel =>
      rw [windowPass_getD s ly (backgroundPass_length s ly) hx, backgroundPass_getD s ly hx]
      simp only [hshown, windowOn_iff]
      rfl
    case counter => exact if_congr (windowDrawn_iff s ly) rfl rfl
    case rows =>
      intro p y
      exact ⟨(shadeAt_renderLine s ly y x).trans (if_congr Iff.rfl (List.getD_map _ default Pixel.shade) rfl),
        (bgiAt_renderLine s ly y x).trans (if_congr Iff.rfl (List.getD_map _ default Pixel.bgi) rfl)⟩
    case kept => rfl
    case bytes =>
      exact ⟨framebufferBytes_length s, framebufferBytes_pixel s hly hx (k := 0) (by decide),
        framebufferBytes_pixel s hly hx (k := 1) (by decide), framebufferBytes_pixel s hly hx (k := 2) (by decide),
        framebufferBytes_pixel s hly hx (k := 3) (by decide)⟩
  case drawing =>
    rw [ppuTransition_drawing hm, modeSpent, hm]
    rfl
  case step =>
    intro t duration
    have hduration : s.ppu.mode.duration = duration := by
      dsimp only [duration]
      cases s.ppu.mode <;> rfl
    rw [← hduration]
    split
    next h => exact ppuStep_of_lt hon h
    next h => exact ppuStep_of_le hon (not_lt.1 h)

end Sys2Proof.Machine
end

section
/-! PROOFS of family 60_exceptions.md. `RunFrame`: one step of its loop, and the overshoot a completed frame leaves (R391). -/

namespace Sys2Proof.Machine

/-! ### The loop -/

theorem frameLoop_of_complete {s : State} (h : Config.frameCycles ≤ s.frameTotal) (n : Nat) : frameLoop n s = .done s := by
  cases n with
  | zero => rfl
  | succ n => exact if_neg (not_lt.2 h)

theorem frameLoop_next {n : Nat} {s t : State} (h : s.frameTotal < Config.frameCycles) (ht : step s = .next t) :
    frameLoop (n + 1) s = frameLoop n { t with frameTotal := s.frameTotal + t.cycles } := by
  rw [frameLoop, if_pos h, ht, ← (step_keepsTime s t ht).2]

theorem frameLoop_fault {n : Nat} {s : State} {op : Byte} {pc : Word} (h : s.frameTotal < Config.frameCycles)
    (ht : step s = .fault (.illegalOpcode op pc)) : frameLoop (n + 1) s = .fault (s.afterFault op pc) ⟨op, pc⟩ := by
  rw [frameLoop, if_pos h, ht]

theorem frameLoop_refused {n : Nat} {s : State} {r : Refusal} (h : s.frameTotal < Config.frameCycles)
    (ht : step s = .refused r) : frameLoop (n + 1) s = .refused s r := by
  rw [frameLoop, if_pos h, ht]

/-- A loop that completes, with rounds enough and begun with less than one step over, ends with less than one step over, in
steps of 4 cycles. -/
theorem frameLoop_overshoot {n : Nat} {s t : State} (hn : Config.frameCycles ≤ s.frameTotal + 4 * n)
    (hs : s.frameTotal < Config.frameCycles + 24) (h : frameLoop n s = .done t) :
    Config.frameCycles ≤ t.frameTotal ∧ t.frameTotal < Config.frameCycles + 24 ∧
      t.frameTotal % 4 = s.frameTotal % 4 := by
  induction n generalizing s with
  | zero =>
    cases h
    exact ⟨hn, hs, rfl⟩
  | succ n ih =>
    by_cases hlt : s.frameTotal < Config.frameCycles
    case neg =>
      rw [frameLoop_of_complete (not_lt.1 hlt)] at h
      cases h
      exact ⟨not_lt.1 hlt, hs, rfl⟩
    cases hstep : step s with
    | next u =>
      obtain ⟨hlo, hhi, hmod⟩ := cycleCounts_bounds (step_keepsTime s u hstep).1
      rw [frameLoop_next hlt hstep] at h
      obtain ⟨hge, hle, hmod'⟩ := ih (by dsimp only; omega) (by dsimp only; omega) h
      exact ⟨hge, hle, by dsimp only at hmod'; omega⟩
    | fault e =>
      obtain ⟨op, pc⟩ := e
      rw [frameLoop_fault hlt hstep] at h
      cases h
    | refused r =>
      rw [frameLoop_refused hlt hstep] at h
      cases h

/-! ### `RunFrame` -/

/-- How `RunFrame` ends where its loop ends so (R391). -/
def closeFrame (e : FrameEnd) : FrameEnd :=
  match e with
  | .done t => .done { t with frameTotal := t.frameTotal - Config.frameCycles }
  | .fault t e => .fault t e
  | .refused t r => .refused t r

/-- Any number of rounds that suffices gives the frame (log 14). -/
theorem runFrame_eq {n : Nat} {s : State} (h : Config.frameCycles ≤ s.frameTotal + 4 * n) :
    runFrame s = closeFrame (frameLoop n s) := by
  rw [frameLoop_fuel n (Config.frameCycles / 4) s h (by unfold Config.frameCycles; omega)]
  rfl

/-- Settles O60: each end of the first round, and the loop's overshoot. -/
theorem runFrameAccumulatesCycles : Obligations.RunFrameAccumulatesCycles := by
  unfold Obligations.RunFrameAccumulatesCycles
  intro s
  have hrounds : Config.frameCycles ≤ s.frameTotal + 4 * (17555 + 1) := by unfold Config.frameCycles; omega
  refine ⟨fun hle => ?complete, fun hlt => ⟨fun t ht => ?next, fun op pc ht => ?fault, fun r ht => ?refused,
    fun t ht => ?overshoot⟩⟩
  case complete =>
    rw [runFrame_eq hrounds, frameLoop_of_complete hle]
    rfl
  case next =>
    have hcycles := (cycleCounts_bounds (step_keepsTime s t ht).1).1
    rw [runFrame_eq hrounds, frameLoop_next hlt ht]
    exact (runFrame_eq (by unfold Config.frameCycles; dsimp only; omega)).symm
  case fault =>
    rw [runFrame_eq hrounds, frameLoop_fault hlt ht]
    rfl
  case refused =>
    rw [runFrame_eq hrounds, frameLoop_refused hlt ht]
    rfl
  case overshoot =>
    rw [runFrame_eq hrounds] at ht
    cases hloop : frameLoop (17555 + 1) s with
    | done u =>
      obtain ⟨hge, hle, hmod⟩ := frameLoop_overshoot hrounds (Nat.lt_add_right 24 hlt) hloop
      rw [hloop] at ht
      cases ht
      unfold Config.frameCycles at *
      dsimp only
      omega
    | fault u e =>
      rw [hloop] at ht
      cases ht
    | refused u r =>
      rw [hloop] at ht
      cases ht

end Sys2Proof.Machine
end
